-- ==== Sys2Proof/Word.lean ====
section
/-! DEFINITION. The widths the spec uses: bytes, 32-bit register words, and the 41-bit transaction word (R9, R15, R54). -/

namespace Sys2Proof

/-- One byte of a byte array (R10). -/
abbrev Byte := BitVec 8

/-- One register, or one SHA-1 word: 32 bits (R8, R15, R96). -/
abbrev Word := BitVec 32

/-- The transaction word T: W [40], OFF [39:32], DATA [31:0] (R54). -/
abbrev TxnWord := BitVec 41

/-- The 64-bit counter (R8, R26). -/
abbrev Counter := BitVec 64

end Sys2Proof
end

