-- ==== Sys2Proof/Config.lean ====
section
/-! DEFINITION. What an implementation or the platform fixes and the spec leaves open: BASE, and the values of registers before
the first reset. Each is a constant without a body, so that nothing can be proved of its value. -/

namespace Sys2Proof

/-- The number of the 256-byte page that BASE is (R8, R40: BASE is OPEN, "a multiple of 0x100"; log 5). -/
opaque Config.basePage : Nat

/-- `BASE`: a multiple of 0x100 by its form (R40). -/
def Config.base : Nat := 0x100 * Config.basePage

/-- FREE VALUE: what register number `reg` holds after power-up number `boot`, before the reset that follows (R145, I6: "any
value" per register; log 7). -/
opaque Config.powerUpWord (boot reg : Nat) : Word

/-- FREE VALUE: the byte array `wk.key` holds after power-up number `boot` (R145, I6; log 7). -/
opaque Config.powerUpBytes (boot : Nat) : List Byte

end Sys2Proof
end

