-- ==== Sys2Proof/Syntax.lean ====
section
/-! DEFINITION. The terms of the machine's language: bus accesses, register names, the 60 instructions of
spec/opcode_table.json, the classes of transactions that have no row there, and the lines of a host program. -/

namespace Sys2Proof

/-- One bus access to the window, as the bus presents it (R41): a direction, a size in bytes, a byte offset from BASE and the
write data. A fetch-type access is a read (R41). Only the aligned accesses of size 4 have a transaction word (R54). -/
structure Access where
  write  : Bool
  size   : Nat
  offset : BitVec 8
  data   : Word
deriving DecidableEq, Repr

/-- One bus access by physical address: `MemRead(addr, size)` and `MemWrite(addr, size, data)` (R12). -/
structure BusAccess where
  write : Bool
  size  : Nat
  addr  : Nat
  data  : Word
deriving DecidableEq, Repr

/-- A register name of the assembler syntax (R61), with the offsets of R15; `raw` is the form `[0xNN]`. -/
inductive Reg where
  | ctrl | status | intEn | config | keyLen | counterHi | counterLo
  | keyW (n : Fin 16)
  | digestW (k : Fin 5)
  | offset | trunc | codeValue
  | codeAscii (m : Fin 3)
  | codeDigits
  | raw (off : BitVec 8)
deriving DecidableEq, Repr

/-- One constructor for each row of spec/opcode_table.json (R63). Each operand has exactly the width of its field (R59); the
bits of DATA outside the fields are ignored (R56, R59) and are no part of the instruction. -/
inductive Instr where
  /-- CMD_NOP: CTRL write with CMD = 0 (R88). -/
  | cmdNop
  /-- CMD_START: CTRL write with CMD = 1 (R89). -/
  | cmdStart
  /-- CMD_CLEAR: CTRL write with CMD = 2 (R90). -/
  | cmdClear
  /-- WR_STATUS: write of STATUS (R79). -/
  | wrStatus (doneClr errClr : Bool)
  /-- WR_INT_EN: write of INT_EN (R80). -/
  | wrIntEn (doneIe errIe : Bool)
  /-- WR_CONFIG: write of CONFIG (R81). -/
  | wrConfig (digits : BitVec 4)
  /-- WR_KEY_LEN: write of KEY_LEN (R82). -/
  | wrKeyLen (len : BitVec 8)
  /-- WR_COUNTER_HI: write of COUNTER_HI (R83). -/
  | wrCounterHi (value : Word)
  /-- WR_COUNTER_LO: write of COUNTER_LO (R84). -/
  | wrCounterLo (value : Word)
  /-- WR_KEY_W0: write of KEY_W0: `b0`..`b3` are KEYBUF_0..KEYBUF_3 (R85). -/
  | wrKeyW0 (b0 b1 b2 b3 : Byte)
  /-- WR_KEY_W1: write of KEY_W1: `b0`..`b3` are KEYBUF_4..KEYBUF_7 (R85). -/
  | wrKeyW1 (b0 b1 b2 b3 : Byte)
  /-- WR_KEY_W2: write of KEY_W2: `b0`..`b3` are KEYBUF_8..KEYBUF_11 (R85). -/
  | wrKeyW2 (b0 b1 b2 b3 : Byte)
  /-- WR_KEY_W3: write of KEY_W3: `b0`..`b3` are KEYBUF_12..KEYBUF_15 (R85). -/
  | wrKeyW3 (b0 b1 b2 b3 : Byte)
  /-- WR_KEY_W4: write of KEY_W4: `b0`..`b3` are KEYBUF_16..KEYBUF_19 (R85). -/
  | wrKeyW4 (b0 b1 b2 b3 : Byte)
  /-- WR_KEY_W5: write of KEY_W5: `b0`..`b3` are KEYBUF_20..KEYBUF_23 (R85). -/
  | wrKeyW5 (b0 b1 b2 b3 : Byte)
  /-- WR_KEY_W6: write of KEY_W6: `b0`..`b3` are KEYBUF_24..KEYBUF_27 (R85). -/
  | wrKeyW6 (b0 b1 b2 b3 : Byte)
  /-- WR_KEY_W7: write of KEY_W7: `b0`..`b3` are KEYBUF_28..KEYBUF_31 (R85). -/
  | wrKeyW7 (b0 b1 b2 b3 : Byte)
  /-- WR_KEY_W8: write of KEY_W8: `b0`..`b3` are KEYBUF_32..KEYBUF_35 (R85). -/
  | wrKeyW8 (b0 b1 b2 b3 : Byte)
  /-- WR_KEY_W9: write of KEY_W9: `b0`..`b3` are KEYBUF_36..KEYBUF_39 (R85). -/
  | wrKeyW9 (b0 b1 b2 b3 : Byte)
  /-- WR_KEY_W10: write of KEY_W10: `b0`..`b3` are KEYBUF_40..KEYBUF_43 (R85). -/
  | wrKeyW10 (b0 b1 b2 b3 : Byte)
  /-- WR_KEY_W11: write of KEY_W11: `b0`..`b3` are KEYBUF_44..KEYBUF_47 (R85). -/
  | wrKeyW11 (b0 b1 b2 b3 : Byte)
  /-- WR_KEY_W12: write of KEY_W12: `b0`..`b3` are KEYBUF_48..KEYBUF_51 (R85). -/
  | wrKeyW12 (b0 b1 b2 b3 : Byte)
  /-- WR_KEY_W13: write of KEY_W13: `b0`..`b3` are KEYBUF_52..KEYBUF_55 (R85). -/
  | wrKeyW13 (b0 b1 b2 b3 : Byte)
  /-- WR_KEY_W14: write of KEY_W14: `b0`..`b3` are KEYBUF_56..KEYBUF_59 (R85). -/
  | wrKeyW14 (b0 b1 b2 b3 : Byte)
  /-- WR_KEY_W15: write of KEY_W15: `b0`..`b3` are KEYBUF_60..KEYBUF_63 (R85). -/
  | wrKeyW15 (b0 b1 b2 b3 : Byte)
  /-- RD_CTRL: read of CTRL (R64). -/
  | rdCtrl
  /-- RD_STATUS: read of STATUS (R65). -/
  | rdStatus
  /-- RD_INT_EN: read of INT_EN (R66). -/
  | rdIntEn
  /-- RD_CONFIG: read of CONFIG (R67). -/
  | rdConfig
  /-- RD_KEY_LEN: read of KEY_LEN (R68). -/
  | rdKeyLen
  /-- RD_COUNTER_HI: read of COUNTER_HI (R69). -/
  | rdCounterHi
  /-- RD_COUNTER_LO: read of COUNTER_LO (R70). -/
  | rdCounterLo
  /-- RD_KEY_W0: read of KEY_W0 (R71). -/
  | rdKeyW0
  /-- RD_KEY_W1: read of KEY_W1 (R71). -/
  | rdKeyW1
  /-- RD_KEY_W2: read of KEY_W2 (R71). -/
  | rdKeyW2
  /-- RD_KEY_W3: read of KEY_W3 (R71). -/
  | rdKeyW3
  /-- RD_KEY_W4: read of KEY_W4 (R71). -/
  | rdKeyW4
  /-- RD_KEY_W5: read of KEY_W5 (R71). -/
  | rdKeyW5
  /-- RD_KEY_W6: read of KEY_W6 (R71). -/
  | rdKeyW6
  /-- RD_KEY_W7: read of KEY_W7 (R71). -/
  | rdKeyW7
  /-- RD_KEY_W8: read of KEY_W8 (R71). -/
  | rdKeyW8
  /-- RD_KEY_W9: read of KEY_W9 (R71). -/
  | rdKeyW9
  /-- RD_KEY_W10: read of KEY_W10 (R71). -/
  | rdKeyW10
  /-- RD_KEY_W11: read of KEY_W11 (R71). -/
  | rdKeyW11
  /-- RD_KEY_W12: read of KEY_W12 (R71). -/
  | rdKeyW12
  /-- RD_KEY_W13: read of KEY_W13 (R71). -/
  | rdKeyW13
  /-- RD_KEY_W14: read of KEY_W14 (R71). -/
  | rdKeyW14
  /-- RD_KEY_W15: read of KEY_W15 (R71). -/
  | rdKeyW15
  /-- RD_DIGEST_W0: read of DIGEST_W0 (R72). -/
  | rdDigestW0
  /-- RD_DIGEST_W1: read of DIGEST_W1 (R72). -/
  | rdDigestW1
  /-- RD_DIGEST_W2: read of DIGEST_W2 (R72). -/
  | rdDigestW2
  /-- RD_DIGEST_W3: read of DIGEST_W3 (R72). -/
  | rdDigestW3
  /-- RD_DIGEST_W4: read of DIGEST_W4 (R72). -/
  | rdDigestW4
  /-- RD_OFFSET: read of OFFSET (R73). -/
  | rdOffset
  /-- RD_TRUNC: read of TRUNC (R74). -/
  | rdTrunc
  /-- RD_CODE_VALUE: read of CODE_VALUE (R75). -/
  | rdCodeValue
  /-- RD_CODE_ASCII0: read of CODE_ASCII0 (R76). -/
  | rdCodeAscii0
  /-- RD_CODE_ASCII1: read of CODE_ASCII1 (R76). -/
  | rdCodeAscii1
  /-- RD_CODE_ASCII2: read of CODE_ASCII2 (R76). -/
  | rdCodeAscii2
  /-- RD_CODE_DIGITS: read of CODE_DIGITS (R77). -/
  | rdCodeDigits
deriving DecidableEq, Repr

/-- Why a 41-bit word is no transaction word. -/
inductive Reject where
  /-- OFF[1:0] is not 00 (R54): such an access ends in a bus error before decode (R41). -/
  | misaligned (off : BitVec 8)
deriving DecidableEq, Repr

/-- What a transaction word decodes to. Decode is total (R55): beside the rows of the table there are the reads of reserved
offsets, the ignored writes and the reserved commands (R55 cases 1 and 4, R58). -/
inductive Decoded where
  /-- A row of the opcode table. -/
  | instr (i : Instr)
  /-- A read of a reserved offset (R78). -/
  | rdReserved (off : BitVec 8)
  /-- A write to a read-only or reserved offset (R86). -/
  | wrIgnored (off : BitVec 8) (data : Word)
  /-- A CTRL write whose CMD is 3..15 (R58, R91). -/
  | cmdReserved (cmd : BitVec 4)
  /-- No transaction word at all. -/
  | rejected (why : Reject)
deriving DecidableEq, Repr

/-- What the HOST does next: one access, or one turn of a polling loop (R13, R62). -/
inductive HostOp where
  /-- An access to the window, by offset (R41). -/
  | access (a : Access)
  /-- An access by physical address (R12, R40, R42). -/
  | bus (a : BusAccess)
  /-- `POLL`: read the register at `off`, and again while (result & mask) differs from `val` (R62). -/
  | poll (off : BitVec 8) (mask val : Word)
deriving DecidableEq, Repr

/-- One line of a host program: the two transactions of R61 and the pseudo-instructions of R62. -/
inductive HostLine where
  | wr (r : Reg) (v : Word)
  | rd (r : Reg)
  | cmdNop
  | cmdStart
  | cmdClear
  | ack
  | digits (d : Word)
  | loadCtr (c : Counter)
  | loadKey (key : List Byte)
  | wait
  | poll (r : Reg) (mask val : Word)
  | readCode
deriving DecidableEq, Repr

end Sys2Proof
end

