-- ==== Sys2Proof/WellFormed.lean ====
section
/-! DEFINITION. The checks on terms: which bus accesses are transactions, and which host lines are legal. -/

namespace Sys2Proof

/-- The byte offset is that of a word slot: `o mod 4 = 0` (R41, R54). -/
def offsetAligned (off : BitVec 8) : Bool := off.toNat % 4 == 0

/-- "Only aligned 32-bit accesses are supported" (R41); every other access is a BusError (R130). -/
def Access.wellFormed (a : Access) : Bool := a.size == 4 && offsetAligned a.offset

/-- Every instruction term is well formed: an operand's type is exactly as wide as its field (R59), every value of a field is
legal in a transaction (R23, R24: out-of-range DIGITS and LEN are stored), and no instruction relates two operands. -/
def Instr.wellFormed (_ : Instr) : Bool := true

/-- A register name stands for a word slot; only the raw form can name an offset that is none (R61, R41). -/
def Reg.wellFormed : Reg → Bool
  | .raw off => offsetAligned off
  | _ => true

/-- A host line is legal when its register is a word slot and a `LOADKEY` has at most 64 bytes (R62). -/
def HostLine.wellFormed : HostLine → Bool
  | .wr r _ => r.wellFormed
  | .rd r => r.wellFormed
  | .poll r _ _ => r.wellFormed
  | .loadKey key => decide (key.length ≤ 64)
  | .cmdNop => true
  | .cmdStart => true
  | .cmdClear => true
  | .ack => true
  | .digits _ => true
  | .loadCtr _ => true
  | .wait => true
  | .readCode => true

end Sys2Proof
end

