-- ==== Sys2Proof/Decode.lean ====
section
/-! DEFINITION. The decoder of transaction words, total (R55), the rows of the opcode table it stands for (R57, R63), and the
encoder written from the same rules (R54, R57, R59, R61). -/

namespace Sys2Proof

/-! ## The fields of a transaction word (R54) -/

/-- T[40]: 1 is a write, 0 a read. -/
def txnW (t : TxnWord) : Bool := t.getLsbD 40

/-- T[39:32]: the byte offset in the window. -/
def txnOff (t : TxnWord) : BitVec 8 := t.extractLsb' 32 8

/-- T[31:0]: the write data. -/
def txnData (t : TxnWord) : Word := t.extractLsb' 0 32

/-- The word with the given fields: `{W, OFF, DATA}`. -/
def txnWord (w : Bool) (off : BitVec 8) (data : Word) : TxnWord := BitVec.ofBool w ++ off ++ data

/-- The transaction word that describes a 32-bit access (R54). -/
def Access.word (a : Access) : TxnWord := txnWord a.write a.offset a.data

/-- The 32-bit access that a transaction word describes (R54). -/
def accessOfWord (t : TxnWord) : Access :=
  { write := txnW t, size := 4, offset := txnOff t, data := txnData t }

/-! ## The offsets of the register names (R15) -/

/-- The offset of a register name (R15, R61). -/
def Reg.off : Reg → BitVec 8
  | .ctrl => 0x00#8
  | .status => 0x04#8
  | .intEn => 0x08#8
  | .config => 0x0C#8
  | .keyLen => 0x10#8
  | .counterHi => 0x14#8
  | .counterLo => 0x18#8
  | .keyW n => BitVec.ofNat 8 (0x20 + 4 * n.val)
  | .digestW k => BitVec.ofNat 8 (0x60 + 4 * k.val)
  | .offset => 0x74#8
  | .trunc => 0x78#8
  | .codeValue => 0x7C#8
  | .codeAscii m => BitVec.ofNat 8 (0x80 + 4 * m.val)
  | .codeDigits => 0x8C#8
  | .raw off => off

/-! ## Decode -/

/-- The command field of a CTRL write: DATA[3:0], with DATA[31:4] ignored (R56, R57, R58). -/
def decodeCommand (data : Word) : Decoded :=
  match (data.extractLsb' 0 4).toNat with
  | 0x0 => .instr .cmdNop
  | 0x1 => .instr .cmdStart
  | 0x2 => .instr .cmdClear
  | _ => .cmdReserved (data.extractLsb' 0 4)

/-- Byte i of a word packed big-endian: `data[31-8i : 24-8i]` (R43, R59). -/
def wordByte (data : Word) (i : Nat) : Byte := data.extractLsb' (24 - 8 * i) 8

/-- R55 cases 2, 3 and 4: a write by its offset, with the operand assembly of R59. -/
def decodeWrite (off : BitVec 8) (data : Word) : Decoded :=
  match off.toNat with
  | 0x00 => decodeCommand data
  | 0x04 => .instr (.wrStatus (data.getLsbD 1) (data.getLsbD 2))
  | 0x08 => .instr (.wrIntEn (data.getLsbD 0) (data.getLsbD 1))
  | 0x0C => .instr (.wrConfig (data.extractLsb' 0 4))
  | 0x10 => .instr (.wrKeyLen (data.extractLsb' 0 8))
  | 0x14 => .instr (.wrCounterHi data)
  | 0x18 => .instr (.wrCounterLo data)
  | 0x20 => .instr (.wrKeyW0 (wordByte data 0) (wordByte data 1) (wordByte data 2) (wordByte data 3))
  | 0x24 => .instr (.wrKeyW1 (wordByte data 0) (wordByte data 1) (wordByte data 2) (wordByte data 3))
  | 0x28 => .instr (.wrKeyW2 (wordByte data 0) (wordByte data 1) (wordByte data 2) (wordByte data 3))
  | 0x2C => .instr (.wrKeyW3 (wordByte data 0) (wordByte data 1) (wordByte data 2) (wordByte data 3))
  | 0x30 => .instr (.wrKeyW4 (wordByte data 0) (wordByte data 1) (wordByte data 2) (wordByte data 3))
  | 0x34 => .instr (.wrKeyW5 (wordByte data 0) (wordByte data 1) (wordByte data 2) (wordByte data 3))
  | 0x38 => .instr (.wrKeyW6 (wordByte data 0) (wordByte data 1) (wordByte data 2) (wordByte data 3))
  | 0x3C => .instr (.wrKeyW7 (wordByte data 0) (wordByte data 1) (wordByte data 2) (wordByte data 3))
  | 0x40 => .instr (.wrKeyW8 (wordByte data 0) (wordByte data 1) (wordByte data 2) (wordByte data 3))
  | 0x44 => .instr (.wrKeyW9 (wordByte data 0) (wordByte data 1) (wordByte data 2) (wordByte data 3))
  | 0x48 => .instr (.wrKeyW10 (wordByte data 0) (wordByte data 1) (wordByte data 2) (wordByte data 3))
  | 0x4C => .instr (.wrKeyW11 (wordByte data 0) (wordByte data 1) (wordByte data 2) (wordByte data 3))
  | 0x50 => .instr (.wrKeyW12 (wordByte data 0) (wordByte data 1) (wordByte data 2) (wordByte data 3))
  | 0x54 => .instr (.wrKeyW13 (wordByte data 0) (wordByte data 1) (wordByte data 2) (wordByte data 3))
  | 0x58 => .instr (.wrKeyW14 (wordByte data 0) (wordByte data 1) (wordByte data 2) (wordByte data 3))
  | 0x5C => .instr (.wrKeyW15 (wordByte data 0) (wordByte data 1) (wordByte data 2) (wordByte data 3))
  | _ => .wrIgnored off data

/-- R55 case 1: a read by its offset; DATA is ignored (R54). -/
def decodeRead (off : BitVec 8) : Decoded :=
  match off.toNat with
  | 0x00 => .instr .rdCtrl
  | 0x04 => .instr .rdStatus
  | 0x08 => .instr .rdIntEn
  | 0x0C => .instr .rdConfig
  | 0x10 => .instr .rdKeyLen
  | 0x14 => .instr .rdCounterHi
  | 0x18 => .instr .rdCounterLo
  | 0x20 => .instr .rdKeyW0
  | 0x24 => .instr .rdKeyW1
  | 0x28 => .instr .rdKeyW2
  | 0x2C => .instr .rdKeyW3
  | 0x30 => .instr .rdKeyW4
  | 0x34 => .instr .rdKeyW5
  | 0x38 => .instr .rdKeyW6
  | 0x3C => .instr .rdKeyW7
  | 0x40 => .instr .rdKeyW8
  | 0x44 => .instr .rdKeyW9
  | 0x48 => .instr .rdKeyW10
  | 0x4C => .instr .rdKeyW11
  | 0x50 => .instr .rdKeyW12
  | 0x54 => .instr .rdKeyW13
  | 0x58 => .instr .rdKeyW14
  | 0x5C => .instr .rdKeyW15
  | 0x60 => .instr .rdDigestW0
  | 0x64 => .instr .rdDigestW1
  | 0x68 => .instr .rdDigestW2
  | 0x6C => .instr .rdDigestW3
  | 0x70 => .instr .rdDigestW4
  | 0x74 => .instr .rdOffset
  | 0x78 => .instr .rdTrunc
  | 0x7C => .instr .rdCodeValue
  | 0x80 => .instr .rdCodeAscii0
  | 0x84 => .instr .rdCodeAscii1
  | 0x88 => .instr .rdCodeAscii2
  | 0x8C => .instr .rdCodeDigits
  | _ => .rdReserved off

/-- What a 41-bit word stands for (R55). A word whose OFF[1:0] is not 00 is no transaction word (R54) and is rejected by name. -/
def decode (t : TxnWord) : Decoded :=
  if offsetAligned (txnOff t) then
    if txnW t then decodeWrite (txnOff t) (txnData t) else decodeRead (txnOff t)
  else .rejected (.misaligned (txnOff t))

/-- The instruction the decoder reads from the table word `w` (its bit 0 is DATA[0]). A transaction has 41 bits (R54), so a
number with a higher bit is none. The three transactions without a row are no instruction (R63). -/
def decodeTableWord (nbits w : Nat) : Option Instr :=
  if w % 2 ^ nbits < 2 ^ 41 then
    match decode (BitVec.ofNat 41 (w % 2 ^ nbits)) with
    | .instr i => some i
    | .rdReserved _ => none
    | .wrIgnored _ _ => none
    | .cmdReserved _ => none
    | .rejected _ => none
  else none

/-! ## The rows of the opcode table (R57, R63) -/

/-- One row: a word T is of this row when `T & mask = pattern`. -/
structure Row where
  mnemonic : String
  pattern  : TxnWord
  mask     : TxnWord
deriving DecidableEq, Repr

/-- A word is of a row (R63). -/
def Row.covers (r : Row) (t : TxnWord) : Bool := t &&& r.mask == r.pattern

/-- The mask of a row that fixes W and OFF. -/
def maskOff : TxnWord := 0x1FF00000000#41

/-- The mask of a row that fixes W, OFF and CMD (R57). -/
def maskCmd : TxnWord := 0x1FF0000000F#41

/-- The rows of the commands (R57). -/
def rowsCommand : List Row :=
  [⟨"CMD_NOP", 0x10000000000#41, maskCmd⟩,
   ⟨"CMD_START", 0x10000000001#41, maskCmd⟩,
   ⟨"CMD_CLEAR", 0x10000000002#41, maskCmd⟩]

/-- The rows of the writes. -/
def rowsWrite : List Row :=
  [⟨"WR_STATUS", 0x10400000000#41, maskOff⟩,
   ⟨"WR_INT_EN", 0x10800000000#41, maskOff⟩,
   ⟨"WR_CONFIG", 0x10C00000000#41, maskOff⟩,
   ⟨"WR_KEY_LEN", 0x11000000000#41, maskOff⟩,
   ⟨"WR_COUNTER_HI", 0x11400000000#41, maskOff⟩,
   ⟨"WR_COUNTER_LO", 0x11800000000#41, maskOff⟩,
   ⟨"WR_KEY_W0", 0x12000000000#41, maskOff⟩,
   ⟨"WR_KEY_W1", 0x12400000000#41, maskOff⟩,
   ⟨"WR_KEY_W2", 0x12800000000#41, maskOff⟩,
   ⟨"WR_KEY_W3", 0x12C00000000#41, maskOff⟩,
   ⟨"WR_KEY_W4", 0x13000000000#41, maskOff⟩,
   ⟨"WR_KEY_W5", 0x13400000000#41, maskOff⟩] ++
  [⟨"WR_KEY_W6", 0x13800000000#41, maskOff⟩,
   ⟨"WR_KEY_W7", 0x13C00000000#41, maskOff⟩,
   ⟨"WR_KEY_W8", 0x14000000000#41, maskOff⟩,
   ⟨"WR_KEY_W9", 0x14400000000#41, maskOff⟩,
   ⟨"WR_KEY_W10", 0x14800000000#41, maskOff⟩,
   ⟨"WR_KEY_W11", 0x14C00000000#41, maskOff⟩,
   ⟨"WR_KEY_W12", 0x15000000000#41, maskOff⟩,
   ⟨"WR_KEY_W13", 0x15400000000#41, maskOff⟩,
   ⟨"WR_KEY_W14", 0x15800000000#41, maskOff⟩,
   ⟨"WR_KEY_W15", 0x15C00000000#41, maskOff⟩]

/-- The rows of the reads. -/
def rowsRead : List Row :=
  [⟨"RD_CTRL", 0x00000000000#41, maskOff⟩,
   ⟨"RD_STATUS", 0x00400000000#41, maskOff⟩,
   ⟨"RD_INT_EN", 0x00800000000#41, maskOff⟩,
   ⟨"RD_CONFIG", 0x00C00000000#41, maskOff⟩,
   ⟨"RD_KEY_LEN", 0x01000000000#41, maskOff⟩,
   ⟨"RD_COUNTER_HI", 0x01400000000#41, maskOff⟩,
   ⟨"RD_COUNTER_LO", 0x01800000000#41, maskOff⟩,
   ⟨"RD_KEY_W0", 0x02000000000#41, maskOff⟩,
   ⟨"RD_KEY_W1", 0x02400000000#41, maskOff⟩,
   ⟨"RD_KEY_W2", 0x02800000000#41, maskOff⟩,
   ⟨"RD_KEY_W3", 0x02C00000000#41, maskOff⟩,
   ⟨"RD_KEY_W4", 0x03000000000#41, maskOff⟩] ++
  [⟨"RD_KEY_W5", 0x03400000000#41, maskOff⟩,
   ⟨"RD_KEY_W6", 0x03800000000#41, maskOff⟩,
   ⟨"RD_KEY_W7", 0x03C00000000#41, maskOff⟩,
   ⟨"RD_KEY_W8", 0x04000000000#41, maskOff⟩,
   ⟨"RD_KEY_W9", 0x04400000000#41, maskOff⟩,
   ⟨"RD_KEY_W10", 0x04800000000#41, maskOff⟩,
   ⟨"RD_KEY_W11", 0x04C00000000#41, maskOff⟩,
   ⟨"RD_KEY_W12", 0x05000000000#41, maskOff⟩,
   ⟨"RD_KEY_W13", 0x05400000000#41, maskOff⟩,
   ⟨"RD_KEY_W14", 0x05800000000#41, maskOff⟩,
   ⟨"RD_KEY_W15", 0x05C00000000#41, maskOff⟩,
   ⟨"RD_DIGEST_W0", 0x06000000000#41, maskOff⟩] ++
  [⟨"RD_DIGEST_W1", 0x06400000000#41, maskOff⟩,
   ⟨"RD_DIGEST_W2", 0x06800000000#41, maskOff⟩,
   ⟨"RD_DIGEST_W3", 0x06C00000000#41, maskOff⟩,
   ⟨"RD_DIGEST_W4", 0x07000000000#41, maskOff⟩,
   ⟨"RD_OFFSET", 0x07400000000#41, maskOff⟩,
   ⟨"RD_TRUNC", 0x07800000000#41, maskOff⟩,
   ⟨"RD_CODE_VALUE", 0x07C00000000#41, maskOff⟩,
   ⟨"RD_CODE_ASCII0", 0x08000000000#41, maskOff⟩,
   ⟨"RD_CODE_ASCII1", 0x08400000000#41, maskOff⟩,
   ⟨"RD_CODE_ASCII2", 0x08800000000#41, maskOff⟩,
   ⟨"RD_CODE_DIGITS", 0x08C00000000#41, maskOff⟩]

/-- spec/opcode_table.json, row by row, in its order. -/
def opcodeTable : List Row := rowsCommand ++ rowsWrite ++ rowsRead

/-- The mnemonic of an instruction's row, letter for letter. -/
def Instr.mnemonic : Instr → String
  | .cmdNop => "CMD_NOP"
  | .cmdStart => "CMD_START"
  | .cmdClear => "CMD_CLEAR"
  | .wrStatus _ _ => "WR_STATUS"
  | .wrIntEn _ _ => "WR_INT_EN"
  | .wrConfig _ => "WR_CONFIG"
  | .wrKeyLen _ => "WR_KEY_LEN"
  | .wrCounterHi _ => "WR_COUNTER_HI"
  | .wrCounterLo _ => "WR_COUNTER_LO"
  | .wrKeyW0 _ _ _ _ => "WR_KEY_W0"
  | .wrKeyW1 _ _ _ _ => "WR_KEY_W1"
  | .wrKeyW2 _ _ _ _ => "WR_KEY_W2"
  | .wrKeyW3 _ _ _ _ => "WR_KEY_W3"
  | .wrKeyW4 _ _ _ _ => "WR_KEY_W4"
  | .wrKeyW5 _ _ _ _ => "WR_KEY_W5"
  | .wrKeyW6 _ _ _ _ => "WR_KEY_W6"
  | .wrKeyW7 _ _ _ _ => "WR_KEY_W7"
  | .wrKeyW8 _ _ _ _ => "WR_KEY_W8"
  | .wrKeyW9 _ _ _ _ => "WR_KEY_W9"
  | .wrKeyW10 _ _ _ _ => "WR_KEY_W10"
  | .wrKeyW11 _ _ _ _ => "WR_KEY_W11"
  | .wrKeyW12 _ _ _ _ => "WR_KEY_W12"
  | .wrKeyW13 _ _ _ _ => "WR_KEY_W13"
  | .wrKeyW14 _ _ _ _ => "WR_KEY_W14"
  | .wrKeyW15 _ _ _ _ => "WR_KEY_W15"
  | .rdCtrl => "RD_CTRL"
  | .rdStatus => "RD_STATUS"
  | .rdIntEn => "RD_INT_EN"
  | .rdConfig => "RD_CONFIG"
  | .rdKeyLen => "RD_KEY_LEN"
  | .rdCounterHi => "RD_COUNTER_HI"
  | .rdCounterLo => "RD_COUNTER_LO"
  | .rdKeyW0 => "RD_KEY_W0"
  | .rdKeyW1 => "RD_KEY_W1"
  | .rdKeyW2 => "RD_KEY_W2"
  | .rdKeyW3 => "RD_KEY_W3"
  | .rdKeyW4 => "RD_KEY_W4"
  | .rdKeyW5 => "RD_KEY_W5"
  | .rdKeyW6 => "RD_KEY_W6"
  | .rdKeyW7 => "RD_KEY_W7"
  | .rdKeyW8 => "RD_KEY_W8"
  | .rdKeyW9 => "RD_KEY_W9"
  | .rdKeyW10 => "RD_KEY_W10"
  | .rdKeyW11 => "RD_KEY_W11"
  | .rdKeyW12 => "RD_KEY_W12"
  | .rdKeyW13 => "RD_KEY_W13"
  | .rdKeyW14 => "RD_KEY_W14"
  | .rdKeyW15 => "RD_KEY_W15"
  | .rdDigestW0 => "RD_DIGEST_W0"
  | .rdDigestW1 => "RD_DIGEST_W1"
  | .rdDigestW2 => "RD_DIGEST_W2"
  | .rdDigestW3 => "RD_DIGEST_W3"
  | .rdDigestW4 => "RD_DIGEST_W4"
  | .rdOffset => "RD_OFFSET"
  | .rdTrunc => "RD_TRUNC"
  | .rdCodeValue => "RD_CODE_VALUE"
  | .rdCodeAscii0 => "RD_CODE_ASCII0"
  | .rdCodeAscii1 => "RD_CODE_ASCII1"
  | .rdCodeAscii2 => "RD_CODE_ASCII2"
  | .rdCodeDigits => "RD_CODE_DIGITS"

/-! ## Encode (R54, R57, R59, R61) -/

/-- The transaction word of an instruction, with every ignored bit 0. -/
def encode : Instr → TxnWord
  | .cmdNop => txnWord true 0x00#8 0x00000000#32
  | .cmdStart => txnWord true 0x00#8 0x00000001#32
  | .cmdClear => txnWord true 0x00#8 0x00000002#32
  | .wrStatus doneClr errClr => txnWord true 0x04#8 (0#29 ++ BitVec.ofBool errClr ++ BitVec.ofBool doneClr ++ 0#1)
  | .wrIntEn doneIe errIe => txnWord true 0x08#8 (0#30 ++ BitVec.ofBool errIe ++ BitVec.ofBool doneIe)
  | .wrConfig digits => txnWord true 0x0C#8 (0#28 ++ digits)
  | .wrKeyLen len => txnWord true 0x10#8 (0#24 ++ len)
  | .wrCounterHi value => txnWord true 0x14#8 value
  | .wrCounterLo value => txnWord true 0x18#8 value
  | .wrKeyW0 b0 b1 b2 b3 => txnWord true 0x20#8 (b0 ++ b1 ++ b2 ++ b3)
  | .wrKeyW1 b0 b1 b2 b3 => txnWord true 0x24#8 (b0 ++ b1 ++ b2 ++ b3)
  | .wrKeyW2 b0 b1 b2 b3 => txnWord true 0x28#8 (b0 ++ b1 ++ b2 ++ b3)
  | .wrKeyW3 b0 b1 b2 b3 => txnWord true 0x2C#8 (b0 ++ b1 ++ b2 ++ b3)
  | .wrKeyW4 b0 b1 b2 b3 => txnWord true 0x30#8 (b0 ++ b1 ++ b2 ++ b3)
  | .wrKeyW5 b0 b1 b2 b3 => txnWord true 0x34#8 (b0 ++ b1 ++ b2 ++ b3)
  | .wrKeyW6 b0 b1 b2 b3 => txnWord true 0x38#8 (b0 ++ b1 ++ b2 ++ b3)
  | .wrKeyW7 b0 b1 b2 b3 => txnWord true 0x3C#8 (b0 ++ b1 ++ b2 ++ b3)
  | .wrKeyW8 b0 b1 b2 b3 => txnWord true 0x40#8 (b0 ++ b1 ++ b2 ++ b3)
  | .wrKeyW9 b0 b1 b2 b3 => txnWord true 0x44#8 (b0 ++ b1 ++ b2 ++ b3)
  | .wrKeyW10 b0 b1 b2 b3 => txnWord true 0x48#8 (b0 ++ b1 ++ b2 ++ b3)
  | .wrKeyW11 b0 b1 b2 b3 => txnWord true 0x4C#8 (b0 ++ b1 ++ b2 ++ b3)
  | .wrKeyW12 b0 b1 b2 b3 => txnWord true 0x50#8 (b0 ++ b1 ++ b2 ++ b3)
  | .wrKeyW13 b0 b1 b2 b3 => txnWord true 0x54#8 (b0 ++ b1 ++ b2 ++ b3)
  | .wrKeyW14 b0 b1 b2 b3 => txnWord true 0x58#8 (b0 ++ b1 ++ b2 ++ b3)
  | .wrKeyW15 b0 b1 b2 b3 => txnWord true 0x5C#8 (b0 ++ b1 ++ b2 ++ b3)
  | .rdCtrl => txnWord false 0x00#8 0#32
  | .rdStatus => txnWord false 0x04#8 0#32
  | .rdIntEn => txnWord false 0x08#8 0#32
  | .rdConfig => txnWord false 0x0C#8 0#32
  | .rdKeyLen => txnWord false 0x10#8 0#32
  | .rdCounterHi => txnWord false 0x14#8 0#32
  | .rdCounterLo => txnWord false 0x18#8 0#32
  | .rdKeyW0 => txnWord false 0x20#8 0#32
  | .rdKeyW1 => txnWord false 0x24#8 0#32
  | .rdKeyW2 => txnWord false 0x28#8 0#32
  | .rdKeyW3 => txnWord false 0x2C#8 0#32
  | .rdKeyW4 => txnWord false 0x30#8 0#32
  | .rdKeyW5 => txnWord false 0x34#8 0#32
  | .rdKeyW6 => txnWord false 0x38#8 0#32
  | .rdKeyW7 => txnWord false 0x3C#8 0#32
  | .rdKeyW8 => txnWord false 0x40#8 0#32
  | .rdKeyW9 => txnWord false 0x44#8 0#32
  | .rdKeyW10 => txnWord false 0x48#8 0#32
  | .rdKeyW11 => txnWord false 0x4C#8 0#32
  | .rdKeyW12 => txnWord false 0x50#8 0#32
  | .rdKeyW13 => txnWord false 0x54#8 0#32
  | .rdKeyW14 => txnWord false 0x58#8 0#32
  | .rdKeyW15 => txnWord false 0x5C#8 0#32
  | .rdDigestW0 => txnWord false 0x60#8 0#32
  | .rdDigestW1 => txnWord false 0x64#8 0#32
  | .rdDigestW2 => txnWord false 0x68#8 0#32
  | .rdDigestW3 => txnWord false 0x6C#8 0#32
  | .rdDigestW4 => txnWord false 0x70#8 0#32
  | .rdOffset => txnWord false 0x74#8 0#32
  | .rdTrunc => txnWord false 0x78#8 0#32
  | .rdCodeValue => txnWord false 0x7C#8 0#32
  | .rdCodeAscii0 => txnWord false 0x80#8 0#32
  | .rdCodeAscii1 => txnWord false 0x84#8 0#32
  | .rdCodeAscii2 => txnWord false 0x88#8 0#32
  | .rdCodeDigits => txnWord false 0x8C#8 0#32

end Sys2Proof
end

