-- ==== Sys2Proof/Machine/State.lean ====
section
/-! DEFINITION. The state of the machine: every register and every hidden piece of state the spec gives the block, the reset
input, and as plain data the agents around it (the HOST's accesses to come, whose turn it is, what reads have returned). -/

namespace Sys2Proof.Machine

/-- The hidden sequencer state (R35). -/
inductive Fsm where
  | idle
  | busy
deriving DecidableEq, Repr

/-- The working snapshot `wk` of an accepted START (R36). -/
structure Snapshot where
  key     : List Byte
  keylen  : Nat
  counter : Counter
  digits  : BitVec 4
deriving DecidableEq, Repr

/-- "`wk` all zero" (R36, R39): the empty key, and zero everywhere else. -/
def Snapshot.zero : Snapshot := { key := [], keylen := 0, counter := 0, digits := 0 }

/-- Where the block stands with respect to its reset input `rst` (R142, R145). -/
inductive Phase where
  /-- Powered up and not yet reset: every value is unspecified (R145). -/
  | unreset
  /-- `rst` is asserted: no HOST transaction is accepted (R142). -/
  | inReset
  /-- Reset has happened and `rst` is released. -/
  | ready
deriving DecidableEq, Repr

/-- Which agent takes a step (R7), with the environment's release of `rst` and its power cycling (R140, R145). -/
inductive Turn where
  /-- The HOST performs its next access. -/
  | host
  /-- The ENGINE takes COMPLETE if that is enabled (R92). -/
  | engine
  /-- `rst` is asserted: the RESET step (R142). -/
  | rstAssert
  /-- `rst` is released. -/
  | rstRelease
  /-- Power is lost and comes back: nothing is specified until the next reset (R140, R145). -/
  | powerUp
deriving DecidableEq, Repr

/-- The error codes the block raises (R128). -/
inductive ErrorCode where
  /-- ERR_DIGITS: START in IDLE with CONFIG.DIGITS not in 1..9. -/
  | digits
  /-- ERR_KEYLEN: START in IDLE with KEY_LEN.LEN > 64. -/
  | keyLen
  /-- ERR_BUSY: START while BUSY. -/
  | busy
  /-- ERR_CMD: a CTRL write with CMD in 3..15. -/
  | cmd
deriving DecidableEq, Repr

structure State where
  /-- STATUS.DONE (R19). -/
  done : Bool
  /-- STATUS.ERR (R20). -/
  err : Bool
  /-- STATUS.ERR_CODE (R21). -/
  errCode : BitVec 4
  /-- INT_EN.DONE_IE (R22). -/
  doneIe : Bool
  /-- INT_EN.ERR_IE (R22). -/
  errIe : Bool
  /-- CONFIG.DIGITS (R23). -/
  digits : BitVec 4
  /-- KEY_LEN.LEN (R24). -/
  keyLen : BitVec 8
  /-- COUNTER_HI (R25). -/
  counterHi : Word
  /-- COUNTER_LO (R26). -/
  counterLo : Word
  /-- KEYBUF[0..63], behind KEY_W0-KEY_W15 (R27). -/
  keybuf : Vector Byte 64
  /-- DIGEST_W0-DIGEST_W4 (R28). -/
  digest : Vector Word 5
  /-- OFFSET[3:0]; its other bits read 0 (R29). -/
  offset : BitVec 4
  /-- TRUNC[30:0]; bit 31 reads 0 (R30). -/
  trunc : BitVec 31
  /-- CODE_VALUE[29:0]; bits [31:30] read 0 (R31). -/
  codeValue : BitVec 30
  /-- CODE_ASCII0-CODE_ASCII2, the code buffer packed big-endian (R32). -/
  codeAscii : Vector Word 3
  /-- CODE_DIGITS[3:0]; its other bits read 0 (R33). -/
  codeDigits : BitVec 4
  /-- `fsm`; STATUS.BUSY is `fsm = BUSY` (R18, R35). -/
  fsm : Fsm
  /-- `wk` (R36). -/
  wk : Snapshot
  /-- The reset input and whether a reset has happened (R142, R145). -/
  phase : Phase
  /-- MODEL'S OWN (log 2): the HOST's operations to come, in the order in which they reach the block (R45, R48, R52). -/
  host : List HostOp
  /-- MODEL'S OWN (log 1): which agent takes each of the next steps (R7); the OPEN delay LATENCY is in it (R94). -/
  turns : List Turn
  /-- MODEL'S OWN (log 3): the values the read accesses have returned, oldest first (R13, D36). -/
  reads : List Word
  /-- MODEL'S OWN (log 7): how many power-ups have happened. -/
  powerUps : Nat
deriving DecidableEq, Repr

/-- The machine right after reset (R39, R143): every register at the value the spec states, `rst` released. No access is
pending, no turn is fixed and nothing has been read (DESIGN CHOICE, log 1, 2, 3, 7). -/
def State.reset : State where
  done := false
  err := false
  errCode := 0
  doneIe := false
  errIe := false
  digits := 6
  keyLen := 10
  counterHi := 0
  counterLo := 0
  keybuf := Vector.replicate 64 0
  digest := Vector.replicate 5 0
  offset := 0
  trunc := 0
  codeValue := 0
  codeAscii := Vector.replicate 3 0
  codeDigits := 0
  fsm := .idle
  wk := .zero
  phase := .ready
  host := []
  turns := []
  reads := []
  powerUps := 0

/-- How the machine stops with a fault. -/
inductive Fault where
  /-- Raised by an access to the window whose size is not 4 or whose offset is not a multiple of 4 (R41, R130). "The model treats
  such an access as a fault of the HOST step: the step does not complete, and the fault is recorded and never cleared" (R130).
  Safe: the real block goes on unchanged after its bus error response (log 4). -/
  | busError (offset : BitVec 8)
deriving DecidableEq, Repr

/-- Why the model gives a step no meaning. -/
inductive Refusal where
  /-- Raised by an arm of `exec` that has no meaning yet; no arm has this today. Safe. -/
  | notModelled (mnemonic : String)
  /-- Raised by an access to a physical address outside the window: "not decoded by the block", what it reaches is "outside this
  spec" (R42). Safe (log 5). -/
  | outsideWindow (addr : Nat)
  /-- Raised by an access while `rst` is asserted: "no HOST transaction is accepted, and the platform must not issue one" (R142);
  the spec does not say what a bus does with it (R156). Safe (log 6). -/
  | accessDuringReset
  /-- Raised by an access before the first reset: to be treated "as a refusal, since no rule gives it meaning" (R145). Safe
  (log 7). -/
  | accessBeforeReset
  /-- Raised by an engine turn before the first reset, when `fsm` is unspecified (R145). Safe (log 7). -/
  | engineBeforeReset
deriving DecidableEq, Repr

end Sys2Proof.Machine
end

