-- ==== Sys2Proof/Machine/Operands.lean ====
section
/-! DEFINITION. Bit-field, byte-array and operand primitives of the spec (R9, R10, R11), and the operands a command takes from
the input registers (R56). -/

namespace Sys2Proof.Machine

/-! ## Words and byte arrays (R10, R11) -/

/-- `add32(a, b) = (a + b) mod 2^32` (R11). -/
def add32 (a b : Word) : Word := a + b

/-- `rotl32(w, n)` for 0 < n < 32 (R11). Of any other n the same formula: the model's choice (DESIGN CHOICE, log 14). -/
def rotl32 (w : Word) (n : Nat) : Word := (w <<< n) ||| (w >>> (32 - n))

/-- Byte i of a byte array: `A[i]` (R10). The rules never read past the end of an array; the model gives 0x00 there (log 9). -/
def byteAt (bytes : List Byte) (i : Nat) : Byte := bytes.getD i 0

/-- `zeros(n)` (R10). -/
def zeros (n : Nat) : List Byte := List.replicate n 0

/-- `BE4(w)`: the word's bytes, most significant first (R10). -/
def be4 (w : Word) : List Byte := (List.range 4).map (wordByte w)

/-- `BE8(c)`: byte i is `c[63-8i : 56-8i]` (R10, R44). -/
def be8 (c : Counter) : List Byte := (List.range 8).map fun i => c.extractLsb' (56 - 8 * i) 8

/-- `word_BE(A, j) = {A[4j], A[4j+1], A[4j+2], A[4j+3]}` (R10, R43). -/
def wordBE (bytes : List Byte) (j : Nat) : Word :=
  byteAt bytes (4 * j) ++ byteAt bytes (4 * j + 1) ++ byteAt bytes (4 * j + 2) ++ byteAt bytes (4 * j + 3)

/-- `zext32`: the value with zeros above it (R29-R33, R67). -/
def zext32 {w : Nat} (v : BitVec w) : Word := v.setWidth 32

/-! ## Operands a command takes from the input registers (R56) -/

/-- `counter = {COUNTER_HI, COUNTER_LO}` (R26). -/
def State.counter (s : State) : Counter := s.counterHi ++ s.counterLo

/-- The key: `KEYBUF[0 .. LEN-1]` (R27, R108). -/
def State.key (s : State) : List Byte := s.keybuf.toList.take s.keyLen.toNat

/-- The snapshot an accepted START takes (R36, R89). -/
def State.snapshot (s : State) : Snapshot :=
  { key := s.key, keylen := s.keyLen.toNat, counter := s.counter, digits := s.digits }

end Sys2Proof.Machine
end

