-- ==== Sys2Proof/Machine/Flags.lean ====
section
/-! DEFINITION. The status bits: STATUS and INT_EN as words, the error codes, the irq level, and each event that sets or clears a
status bit (R17-R22, R37, R127-R133). -/

namespace Sys2Proof.Machine

/-- The numeric code of an error (R128). -/
def ErrorCode.bits : ErrorCode → BitVec 4
  | .digits => 1
  | .keyLen => 2
  | .busy => 3
  | .cmd => 4

/-- STATUS.BUSY = (fsm = BUSY) (R18). -/
def State.busy (s : State) : Bool := s.fsm == .busy

/-- A read of STATUS: `{24'b0, ERR_CODE, 1'b0, ERR, DONE, BUSY}` (R17, R65). -/
def State.statusWord (s : State) : Word :=
  0#24 ++ s.errCode ++ 0#1 ++ BitVec.ofBool s.err ++ BitVec.ofBool s.done ++ BitVec.ofBool s.busy

/-- A read of INT_EN: `{30'b0, ERR_IE, DONE_IE}` (R66). -/
def State.intEnWord (s : State) : Word := 0#30 ++ BitVec.ofBool s.errIe ++ BitVec.ofBool s.doneIe

/-- The irq output, level-sensitive and never latched (R37, R134, R135). -/
def State.irq (s : State) : Bool := (s.done && s.doneIe) || (s.err && s.errIe)

/-- `set_error(code)`: ERR and ERR_CODE, and nothing else (R127). It is the block's whole "trap entry" (R132). -/
def setError (code : ErrorCode) (s : State) : State := { s with err := true, errCode := code.bits }

/-- Every event that clears ERR clears ERR_CODE too (R21, R133). It is the block's whole "trap return" (R132). -/
def clearError (s : State) : State := { s with err := false, errCode := 0 }

/-- Clearing DONE (R19). -/
def clearDone (s : State) : State := { s with done := false }

/-- The W1C write of STATUS: each strobe clears its own bit (R79, R151). -/
def clearStatus (doneClr errClr : Bool) (s : State) : State :=
  let s₁ := if doneClr then clearDone s else s
  if errClr then clearError s₁ else s₁

end Sys2Proof.Machine
end

