-- ==== Sys2Proof/Machine/Ops.lean ====
section
/-! DEFINITION. The shared operations over the registers: the response of a read, key and result registers, the reset state, the
reset input, power-up, and the mapping of physical addresses into the window. Reporting an error (the block's "trap entry",
R132) is `setError` and its clearing `clearError`, in Flags.lean. -/

namespace Sys2Proof.Machine

/-- A read access returns `v` (R13); it changes no state of the block (R46). -/
def respond (v : Word) (s : State) : State := { s with reads := s.reads ++ [v] }

/-- The four bytes of KEY_Wn, packed big-endian: `KEYBUF[4n+i] <- b_i` (R27, R59, R85). -/
def writeKeyWord (n : Fin 16) (b0 b1 b2 b3 : Byte) (s : State) : State :=
  { s with
    keybuf := (((s.keybuf.set (4 * n.val) b0 (by omega)).set (4 * n.val + 1) b1 (by omega)).set
      (4 * n.val + 2) b2 (by omega)).set (4 * n.val + 3) b3 (by omega) }

/-- `clear_results()`: every result register is 0 (40_host_interface.md, preamble; R28-R33). -/
def clearResults (s : State) : State :=
  { s with
    digest := Vector.replicate 5 0
    offset := 0
    trunc := 0
    codeValue := 0
    codeAscii := Vector.replicate 3 0
    codeDigits := 0 }

/-- The reset state of R39 for every register, `fsm` and `wk`, as CLEAR and reset apply it (R90, R142, R143, R146). The reset
input and the HOST's side (its accesses to come, the turns, what it has read) are no part of the block and stay. -/
def applyReset (s : State) : State :=
  { State.reset with
    phase := s.phase, host := s.host, turns := s.turns, reads := s.reads, powerUps := s.powerUps }

/-- The RESET step: `rst` is asserted (R142, R144). -/
def assertReset (s : State) : State := { applyReset s with phase := .inReset }

/-- `rst` is released; before any reset there is nothing to release (R142, R145). -/
def releaseReset (s : State) : State :=
  match s.phase with
  | .inReset => { s with phase := .ready }
  | .ready => s
  | .unreset => s

/-- The power-up value of `fsm`: either one (R145, log 7). -/
def powerUpFsm (w : Word) : Fsm := if w.getLsbD 0 then .busy else .idle

/-- Power-up: every register, `fsm` and `wk` holds a free value until the next reset (R140, R145, I6; log 7). -/
def powerUp (s : State) : State :=
  let v := Config.powerUpWord s.powerUps
  { done := (v 0).getLsbD 0
    err := (v 1).getLsbD 0
    errCode := (v 2).setWidth 4
    doneIe := (v 3).getLsbD 0
    errIe := (v 4).getLsbD 0
    digits := (v 5).setWidth 4
    keyLen := (v 6).setWidth 8
    counterHi := v 7
    counterLo := v 8
    keybuf := Vector.ofFn fun i => (v (64 + i.val)).setWidth 8
    digest := Vector.ofFn fun k => v (16 + k.val)
    offset := (v 9).setWidth 4
    trunc := (v 10).setWidth 31
    codeValue := (v 11).setWidth 30
    codeAscii := Vector.ofFn fun m => v (24 + m.val)
    codeDigits := (v 12).setWidth 4
    fsm := powerUpFsm (v 13)
    wk := { key := Config.powerUpBytes s.powerUps
            keylen := (v 32).toNat
            counter := v 33 ++ v 34
            digits := (v 35).setWidth 4 }
    phase := .unreset
    host := s.host
    turns := s.turns
    reads := s.reads
    powerUps := s.powerUps + 1 }

/-- The offset in the window of a physical address, if it is in `BASE .. BASE + 0xFF` (R12, R40, R42). -/
def windowOffset (addr : Nat) : Option (BitVec 8) :=
  if Config.base ≤ addr ∧ addr ≤ Config.base + 0xFF then some (BitVec.ofNat 8 (addr - Config.base)) else none

/-- The window access that a physical access of the same direction, size and data is, at a known offset. -/
def busAccessAt (b : BusAccess) (off : BitVec 8) : Access :=
  { write := b.write, size := b.size, offset := off, data := b.data }

/-- The 32-bit read of an offset (R54: DATA is 0). -/
def readAt (off : BitVec 8) : Access := { write := false, size := 4, offset := off, data := 0 }

/-- The 32-bit write of an offset. -/
def writeAt (off : BitVec 8) (data : Word) : Access := { write := true, size := 4, offset := off, data := data }

end Sys2Proof.Machine
end

