-- ==== Sys2Proof/Machine/Sha1.lean ====
section
/-! DEFINITION. SHA-1 (41_sha1.md, R96-R106). -/

namespace Sys2Proof.Machine

/-- Five 32-bit words: the chaining value (H0..H4) and the working variables (a..e) (R96). -/
structure Chain where
  h0 : Word
  h1 : Word
  h2 : Word
  h3 : Word
  h4 : Word
deriving DecidableEq, Repr

/-- `IV` (R97). -/
def sha1IV : Chain :=
  { h0 := 0x67452301, h1 := 0xEFCDAB89, h2 := 0x98BADCFE, h3 := 0x10325476, h4 := 0xC3D2E1F0 }

/-- The round constant `K(t)` (R98), for t in 0..79; the last case stands for every larger t too (DESIGN CHOICE, log 14). -/
def roundK (t : Nat) : Word :=
  if t ≤ 19 then 0x5A827999 else if t ≤ 39 then 0x6ED9EBA1 else if t ≤ 59 then 0x8F1BBCDC else 0xCA62C1D6

/-- The round function `f(t, b, c, d)`: Ch, Parity, Maj, Parity (R99), for t in 0..79; the last case stands for every larger t too
(DESIGN CHOICE, log 14). -/
def roundF (t : Nat) (b c d : Word) : Word :=
  if t ≤ 19 then (b &&& c) ^^^ (~~~b &&& d)
  else if t ≤ 39 then b ^^^ c ^^^ d
  else if t ≤ 59 then (b &&& c) ^^^ (b &&& d) ^^^ (c &&& d)
  else b ^^^ c ^^^ d

/-- The message words W[0..15] of a 64-byte block (R100). -/
def messageWords (block : List Byte) : List Word := (List.range 16).map (wordBE block)

/-- One more word of the schedule, from the words so far with the newest first: `W[t] = rotl32(W[t-3] ^ W[t-8] ^ W[t-14] ^
W[t-16], 1)` (R101). -/
def nextWord (newestFirst : List Word) : Word :=
  rotl32 (newestFirst.getD 2 0 ^^^ newestFirst.getD 7 0 ^^^ newestFirst.getD 13 0 ^^^ newestFirst.getD 15 0) 1

/-- `n` more words of the schedule (R101). -/
def extendSchedule : Nat → List Word → List Word
  | 0, newestFirst => newestFirst
  | n + 1, newestFirst => extendSchedule n (nextWord newestFirst :: newestFirst)

/-- The schedule W[0..79] of a block (R100, R101). -/
def schedule (block : List Byte) : List Word := (extendSchedule 64 (messageWords block).reverse).reverse

/-- Round t with schedule word w (R102). -/
def roundStep (t : Nat) (w : Word) (v : Chain) : Chain :=
  { h0 := add32 (add32 (add32 (add32 (rotl32 v.h0 5) (roundF t v.h1 v.h2 v.h3)) v.h4) (roundK t)) w
    h1 := v.h0
    h2 := rotl32 v.h1 30
    h3 := v.h2
    h4 := v.h3 }

/-- The rounds from t on, one for each schedule word left (R102). -/
def roundsFrom : Nat → List Word → Chain → Chain
  | _, [], v => v
  | t, w :: ws, v => roundsFrom (t + 1) ws (roundStep t w v)

/-- `COMPRESS(H, B)` (R102, R103). Irreducible, so that the elaborator never runs 80 rounds on terms to compare two states; `unfold`
and the kernel open it. -/
@[irreducible] def compress (h : Chain) (block : List Byte) : Chain :=
  let v := roundsFrom 0 (schedule block) h
  { h0 := add32 h.h0 v.h0
    h1 := add32 h.h1 v.h1
    h2 := add32 h.h2 v.h2
    h3 := add32 h.h3 v.h3
    h4 := add32 h.h4 v.h4 }

/-- The number k of zero bytes in the padding of an n-byte message: the smallest with (n + 1 + k) mod 64 = 56 (R104). -/
def padZeros (n : Nat) : Nat := (119 - n % 64) % 64

/-- `PAD(m) = m || 0x80 || zeros(k) || BE8(8n)` (R104), for n < 2^61. Of a longer message the bit length is taken mod 2^64: the
model's choice (DESIGN CHOICE, log 14). The engine pads two messages only, of 72 and 84 bytes. -/
def sha1Pad (m : List Byte) : List Byte :=
  m ++ [0x80] ++ zeros (padZeros m.length) ++ be8 (BitVec.ofNat 64 (8 * m.length))

/-- The first `n` 64-byte blocks of a byte array (R105). -/
def splitBlocks : Nat → List Byte → List (List Byte)
  | 0, _ => []
  | n + 1, bytes => bytes.take 64 :: splitBlocks n (bytes.drop 64)

/-- `SER(H)` (R106). -/
def serialise (h : Chain) : List Byte := be4 h.h0 ++ be4 h.h1 ++ be4 h.h2 ++ be4 h.h3 ++ be4 h.h4

/-- `SHA1(m)` (R105), for a message of fewer than 2^61 bytes (R104); of a longer one: log 14 (DESIGN CHOICE). The engine does not call it: it runs the compressions of R113 and R115. -/
def sha1 (m : List Byte) : List Byte :=
  serialise ((splitBlocks ((sha1Pad m).length / 64) (sha1Pad m)).foldl compress sha1IV)

end Sys2Proof.Machine
end

