-- ==== Sys2Proof/Machine/Hmac.lean ====
section
/-! DEFINITION. HMAC-SHA1 over an 8-byte message (42_hmac.md, R108-R116). -/

namespace Sys2Proof.Machine

/-- `K0 = K || zeros(64 - L)` (R109), for L in 0..64 (R108). A longer byte list stays as it is, and the compression reads its first 64
bytes: the model's choice (DESIGN CHOICE, log 14). -/
def keyBlock (key : List Byte) : List Byte := key ++ zeros (64 - key.length)

/-- `IPB[i] = K0[i] ^ 0x36` (R110). -/
def innerPadBlock (key : List Byte) : List Byte := (keyBlock key).map (· ^^^ 0x36)

/-- `OPB[i] = K0[i] ^ 0x5C` (R110). -/
def outerPadBlock (key : List Byte) : List Byte := (keyBlock key).map (· ^^^ 0x5C)

/-- IB2: the message, 0x80, 47 zero bytes and BE8(576) (R112). -/
def innerSecondBlock (msg : List Byte) : List Byte := msg ++ [0x80] ++ zeros 47 ++ be8 576

/-- OB2: the inner digest, 0x80, 35 zero bytes and BE8(672) (R114). -/
def outerSecondBlock (inner : List Byte) : List Byte := inner ++ [0x80] ++ zeros 35 ++ be8 672

/-- INNER (R113). -/
def innerHash (key msg : List Byte) : List Byte :=
  serialise (compress (compress sha1IV (innerPadBlock key)) (innerSecondBlock msg))

/-- `HMAC_SHA1(K, M)`: the D of R115 (R116), for K of 0..64 bytes and M of 8. Of other lengths: log 14 (DESIGN CHOICE). -/
def hmacSha1 (key msg : List Byte) : List Byte :=
  serialise (compress (compress sha1IV (outerPadBlock key)) (outerSecondBlock (innerHash key msg)))

end Sys2Proof.Machine
end

