-- ==== Sys2Proof/Machine/Truncate.lean ====
section
/-! DEFINITION. Dynamic truncation and decimal encoding (43_truncate_encode.md, R117-R126). -/

namespace Sys2Proof.Machine

/-- `off = D[19] & 0x0F` (R117). -/
def truncOffset (digest : List Byte) : BitVec 4 := (byteAt digest 19 &&& 0x0F).setWidth 4

/-- `TRUNC31(D, off)` (R118, R119): four bytes big-endian, with bit 7 of the first cleared. -/
def trunc31 (digest : List Byte) (off : Nat) : BitVec 31 :=
  (((zext32 (byteAt digest off &&& 0x7F)) <<< 24) ||| ((zext32 (byteAt digest (off + 1))) <<< 16) |||
    ((zext32 (byteAt digest (off + 2))) <<< 8) ||| zext32 (byteAt digest (off + 3))).setWidth 31

/-- `val = binary mod 10^d` (R121), for d in 1..9 (R120). That the same formula is used of any other d is the model's choice
(DESIGN CHOICE, log 14); none reaches it after a reset. -/
def codeValueOf (binary d : Nat) : Nat := binary % 10 ^ d

/-- `digit(i) = floor(val / 10^(d-1-i)) mod 10`, position 0 leftmost (R122), for i in 0..d-1. Of any other i it is the units digit:
the model's choice (DESIGN CHOICE, log 14). -/
def digitAt (val d i : Nat) : Nat := val / 10 ^ (d - 1 - i) % 10

/-- `char(i) = 0x30 + digit(i)` (R123). -/
def charAt (val d i : Nat) : Byte := BitVec.ofNat 8 (0x30 + digitAt val d i)

/-- `CODEBUF(val, d)`: d characters, then 0x00 up to 12 bytes (R124), for d in 1..9 (R120). For d = 0 it is 12 bytes 0x00, and for
d > 12 the first 12 characters: the model's choice (DESIGN CHOICE, log 14). -/
def codeBuf (val d : Nat) : List Byte := (List.range 12).map fun i => if i < d then charAt val d i else 0x00

end Sys2Proof.Machine
end

