-- ==== Sys2Proof/Machine/Engine.lean ====
section
/-! DEFINITION. The engine: OTP_PIPELINE and the COMPLETE step (R92, R93). -/

namespace Sys2Proof.Machine

/-- What OTP_PIPELINE returns (R93). -/
structure OtpResult where
  digest : List Byte
  off    : BitVec 4
  bin    : BitVec 31
  val    : Nat
  buf    : List Byte
deriving DecidableEq, Repr

/-- `OTP_PIPELINE(key, counter, d)` (R93), a function of keys of 0..64 bytes and d in 1..9. What it gives of other arguments, which no
accepted START passes to it, is the model's choice (DESIGN CHOICE, log 14). -/
def otpPipeline (key : List Byte) (counter : Counter) (d : Nat) : OtpResult :=
  let digest := hmacSha1 key (be8 counter)
  let off := truncOffset digest
  let bin := trunc31 digest off.toNat
  let val := codeValueOf bin.toNat d
  { digest := digest, off := off, bin := bin, val := val, buf := codeBuf val d }

/-- The result of a snapshot (R92: COMPLETE reads `wk` only). -/
def Snapshot.result (w : Snapshot) : OtpResult := otpPipeline w.key w.counter w.digits.toNat

/-- DIGEST_Wk = word_BE(D, k) (R28, R92). -/
def digestWords (r : OtpResult) : Vector Word 5 :=
  #v[wordBE r.digest 0, wordBE r.digest 1, wordBE r.digest 2, wordBE r.digest 3, wordBE r.digest 4]

/-- CODE_ASCIIm = word_BE(CODEBUF, m) (R32, R92). -/
def codeWords (r : OtpResult) : Vector Word 3 := #v[wordBE r.buf 0, wordBE r.buf 1, wordBE r.buf 2]

/-- The result registers receive a result for the digit count `d` (R28-R33, R92). A value of more than 30 bits, which no d in 1..9
gives (R121), is cut to the field: the model's choice (DESIGN CHOICE, log 14). -/
def writeResults (r : OtpResult) (d : BitVec 4) (s : State) : State :=
  { s with
    digest := digestWords r
    offset := r.off
    trunc := r.bin
    codeValue := BitVec.ofNat 30 r.val
    codeAscii := codeWords r
    codeDigits := d }

/-- COMPLETE, where it is enabled (R92): it reads only `wk`, and all of its writes are one step. -/
def complete (s : State) : State :=
  { writeResults s.wk.result s.wk.digits s with wk := .zero, fsm := .idle, done := true }

end Sys2Proof.Machine
end

