-- ==== Sys2Proof/Machine/Commands.lean ====
section
/-! DEFINITION. The commands of a CTRL write (R87-R91). -/

namespace Sys2Proof.Machine

/-- What a START in IDLE clears before its checks: DONE, ERR, ERR_CODE and the result registers (R19, R20, R89). -/
def startClear (s : State) : State := clearResults (clearError (clearDone s))

/-- The checks of a START in IDLE, KEY_LEN before DIGITS: the first that fails is reported (R89, R129, R131). -/
def startError? (s : State) : Option ErrorCode :=
  if s.keyLen.toNat > 64 then some .keyLen
  else if s.digits.toNat = 0 ∨ s.digits.toNat > 9 then some .digits
  else none

/-- START (R89). -/
def start (s : State) : State :=
  match s.fsm with
  | .busy => setError .busy s
  | .idle =>
    match startError? s with
    | some code => setError code (startClear s)
    | none => { startClear s with wk := s.snapshot, fsm := .busy }

/-- CMD_NOP (R88): no effect. -/
def execCmdNop (s : State) : Host.Outcome State Fault Refusal := .next s

/-- CMD_START (R89). -/
def execCmdStart (s : State) : Host.Outcome State Fault Refusal := .next (start s)

/-- CMD_CLEAR (R90, R146): exactly the effect of reset. -/
def execCmdClear (s : State) : Host.Outcome State Fault Refusal := .next (applyReset s)

/-- A reserved command, CMD 3..15 (R91): `set_error(ERR_CMD)` and nothing else. It has no row in the table (R58). -/
def execCmdReserved (s : State) : Host.Outcome State Fault Refusal := .next (setError .cmd s)

end Sys2Proof.Machine
end

