-- ==== Sys2Proof/Machine/Reads.lean ====
section
/-! DEFINITION. The register reads (R64-R78): each returns a word and changes nothing in the block (R46). -/

namespace Sys2Proof.Machine

/-- RD_CTRL: CTRL reads 0 (R16, R64). -/
def execRdCtrl (s : State) : Host.Outcome State Fault Refusal := .next (respond 0 s)

/-- RD_STATUS: no bit is cleared by the read (R65). -/
def execRdStatus (s : State) : Host.Outcome State Fault Refusal := .next (respond s.statusWord s)

/-- RD_INT_EN: bits [31:2] read 0 (R66). -/
def execRdIntEn (s : State) : Host.Outcome State Fault Refusal := .next (respond s.intEnWord s)

/-- RD_CONFIG: DIGITS as stored (R67). -/
def execRdConfig (s : State) : Host.Outcome State Fault Refusal := .next (respond (zext32 s.digits) s)

/-- RD_KEY_LEN: LEN as stored (R68). -/
def execRdKeyLen (s : State) : Host.Outcome State Fault Refusal := .next (respond (zext32 s.keyLen) s)

/-- RD_COUNTER_HI: the register (R69). -/
def execRdCounterHi (s : State) : Host.Outcome State Fault Refusal := .next (respond s.counterHi s)

/-- RD_COUNTER_LO: the register (R70). -/
def execRdCounterLo (s : State) : Host.Outcome State Fault Refusal := .next (respond s.counterLo s)

/-- RD_KEY_W0: the key is never readable (R27, R71). -/
def execRdKeyW0 (s : State) : Host.Outcome State Fault Refusal := .next (respond 0 s)

/-- RD_KEY_W1: the key is never readable (R27, R71). -/
def execRdKeyW1 (s : State) : Host.Outcome State Fault Refusal := .next (respond 0 s)

/-- RD_KEY_W2: the key is never readable (R27, R71). -/
def execRdKeyW2 (s : State) : Host.Outcome State Fault Refusal := .next (respond 0 s)

/-- RD_KEY_W3: the key is never readable (R27, R71). -/
def execRdKeyW3 (s : State) : Host.Outcome State Fault Refusal := .next (respond 0 s)

/-- RD_KEY_W4: the key is never readable (R27, R71). -/
def execRdKeyW4 (s : State) : Host.Outcome State Fault Refusal := .next (respond 0 s)

/-- RD_KEY_W5: the key is never readable (R27, R71). -/
def execRdKeyW5 (s : State) : Host.Outcome State Fault Refusal := .next (respond 0 s)

/-- RD_KEY_W6: the key is never readable (R27, R71). -/
def execRdKeyW6 (s : State) : Host.Outcome State Fault Refusal := .next (respond 0 s)

/-- RD_KEY_W7: the key is never readable (R27, R71). -/
def execRdKeyW7 (s : State) : Host.Outcome State Fault Refusal := .next (respond 0 s)

/-- RD_KEY_W8: the key is never readable (R27, R71). -/
def execRdKeyW8 (s : State) : Host.Outcome State Fault Refusal := .next (respond 0 s)

/-- RD_KEY_W9: the key is never readable (R27, R71). -/
def execRdKeyW9 (s : State) : Host.Outcome State Fault Refusal := .next (respond 0 s)

/-- RD_KEY_W10: the key is never readable (R27, R71). -/
def execRdKeyW10 (s : State) : Host.Outcome State Fault Refusal := .next (respond 0 s)

/-- RD_KEY_W11: the key is never readable (R27, R71). -/
def execRdKeyW11 (s : State) : Host.Outcome State Fault Refusal := .next (respond 0 s)

/-- RD_KEY_W12: the key is never readable (R27, R71). -/
def execRdKeyW12 (s : State) : Host.Outcome State Fault Refusal := .next (respond 0 s)

/-- RD_KEY_W13: the key is never readable (R27, R71). -/
def execRdKeyW13 (s : State) : Host.Outcome State Fault Refusal := .next (respond 0 s)

/-- RD_KEY_W14: the key is never readable (R27, R71). -/
def execRdKeyW14 (s : State) : Host.Outcome State Fault Refusal := .next (respond 0 s)

/-- RD_KEY_W15: the key is never readable (R27, R71). -/
def execRdKeyW15 (s : State) : Host.Outcome State Fault Refusal := .next (respond 0 s)

/-- RD_DIGEST_W0: the register (R72). -/
def execRdDigestW0 (s : State) : Host.Outcome State Fault Refusal := .next (respond (s.digest[0]) s)

/-- RD_DIGEST_W1: the register (R72). -/
def execRdDigestW1 (s : State) : Host.Outcome State Fault Refusal := .next (respond (s.digest[1]) s)

/-- RD_DIGEST_W2: the register (R72). -/
def execRdDigestW2 (s : State) : Host.Outcome State Fault Refusal := .next (respond (s.digest[2]) s)

/-- RD_DIGEST_W3: the register (R72). -/
def execRdDigestW3 (s : State) : Host.Outcome State Fault Refusal := .next (respond (s.digest[3]) s)

/-- RD_DIGEST_W4: the register (R72). -/
def execRdDigestW4 (s : State) : Host.Outcome State Fault Refusal := .next (respond (s.digest[4]) s)

/-- RD_OFFSET: the register (R73). -/
def execRdOffset (s : State) : Host.Outcome State Fault Refusal := .next (respond (zext32 s.offset) s)

/-- RD_TRUNC: the register (R74). -/
def execRdTrunc (s : State) : Host.Outcome State Fault Refusal := .next (respond (zext32 s.trunc) s)

/-- RD_CODE_VALUE: the register (R75). -/
def execRdCodeValue (s : State) : Host.Outcome State Fault Refusal := .next (respond (zext32 s.codeValue) s)

/-- RD_CODE_ASCII0: the register (R76). -/
def execRdCodeAscii0 (s : State) : Host.Outcome State Fault Refusal := .next (respond (s.codeAscii[0]) s)

/-- RD_CODE_ASCII1: the register (R76). -/
def execRdCodeAscii1 (s : State) : Host.Outcome State Fault Refusal := .next (respond (s.codeAscii[1]) s)

/-- RD_CODE_ASCII2: the register (R76). -/
def execRdCodeAscii2 (s : State) : Host.Outcome State Fault Refusal := .next (respond (s.codeAscii[2]) s)

/-- RD_CODE_DIGITS: the register (R77). -/
def execRdCodeDigits (s : State) : Host.Outcome State Fault Refusal := .next (respond (zext32 s.codeDigits) s)

/-- A read of a reserved offset (R34, R78): 0. It has no row in the table (R63). -/
def execRdReserved (s : State) : Host.Outcome State Fault Refusal := .next (respond 0 s)

end Sys2Proof.Machine
end

