-- ==== Sys2Proof/Machine/Writes.lean ====
section
/-! DEFINITION. The register writes (R79-R86). A write stores only its fields (R59, R47). -/

namespace Sys2Proof.Machine

/-- WR_STATUS: W1C: each 1 clears its bit (R79). -/
def execWrStatus (doneClr errClr : Bool) (s : State) : Host.Outcome State Fault Refusal :=
  .next (clearStatus doneClr errClr s)

/-- WR_INT_EN: DONE_IE and ERR_IE (R80); the irq level follows at once (R37). -/
def execWrIntEn (doneIe errIe : Bool) (s : State) : Host.Outcome State Fault Refusal :=
  .next { s with doneIe := doneIe, errIe := errIe }

/-- WR_CONFIG: DIGITS, any 4-bit value; START checks it (R81). -/
def execWrConfig (digits : BitVec 4) (s : State) : Host.Outcome State Fault Refusal :=
  .next { s with digits := digits }

/-- WR_KEY_LEN: LEN, any 8-bit value; START checks it (R82). -/
def execWrKeyLen (len : BitVec 8) (s : State) : Host.Outcome State Fault Refusal :=
  .next { s with keyLen := len }

/-- WR_COUNTER_HI: counter[63:32] (R83). -/
def execWrCounterHi (value : Word) (s : State) : Host.Outcome State Fault Refusal :=
  .next { s with counterHi := value }

/-- WR_COUNTER_LO: counter[31:0], with no carry into COUNTER_HI (R84). -/
def execWrCounterLo (value : Word) (s : State) : Host.Outcome State Fault Refusal :=
  .next { s with counterLo := value }

/-- WR_KEY_W0: KEYBUF_0..KEYBUF_3 (R85). -/
def execWrKeyW0 (b0 b1 b2 b3 : Byte) (s : State) : Host.Outcome State Fault Refusal :=
  .next (writeKeyWord 0 b0 b1 b2 b3 s)

/-- WR_KEY_W1: KEYBUF_4..KEYBUF_7 (R85). -/
def execWrKeyW1 (b0 b1 b2 b3 : Byte) (s : State) : Host.Outcome State Fault Refusal :=
  .next (writeKeyWord 1 b0 b1 b2 b3 s)

/-- WR_KEY_W2: KEYBUF_8..KEYBUF_11 (R85). -/
def execWrKeyW2 (b0 b1 b2 b3 : Byte) (s : State) : Host.Outcome State Fault Refusal :=
  .next (writeKeyWord 2 b0 b1 b2 b3 s)

/-- WR_KEY_W3: KEYBUF_12..KEYBUF_15 (R85). -/
def execWrKeyW3 (b0 b1 b2 b3 : Byte) (s : State) : Host.Outcome State Fault Refusal :=
  .next (writeKeyWord 3 b0 b1 b2 b3 s)

/-- WR_KEY_W4: KEYBUF_16..KEYBUF_19 (R85). -/
def execWrKeyW4 (b0 b1 b2 b3 : Byte) (s : State) : Host.Outcome State Fault Refusal :=
  .next (writeKeyWord 4 b0 b1 b2 b3 s)

/-- WR_KEY_W5: KEYBUF_20..KEYBUF_23 (R85). -/
def execWrKeyW5 (b0 b1 b2 b3 : Byte) (s : State) : Host.Outcome State Fault Refusal :=
  .next (writeKeyWord 5 b0 b1 b2 b3 s)

/-- WR_KEY_W6: KEYBUF_24..KEYBUF_27 (R85). -/
def execWrKeyW6 (b0 b1 b2 b3 : Byte) (s : State) : Host.Outcome State Fault Refusal :=
  .next (writeKeyWord 6 b0 b1 b2 b3 s)

/-- WR_KEY_W7: KEYBUF_28..KEYBUF_31 (R85). -/
def execWrKeyW7 (b0 b1 b2 b3 : Byte) (s : State) : Host.Outcome State Fault Refusal :=
  .next (writeKeyWord 7 b0 b1 b2 b3 s)

/-- WR_KEY_W8: KEYBUF_32..KEYBUF_35 (R85). -/
def execWrKeyW8 (b0 b1 b2 b3 : Byte) (s : State) : Host.Outcome State Fault Refusal :=
  .next (writeKeyWord 8 b0 b1 b2 b3 s)

/-- WR_KEY_W9: KEYBUF_36..KEYBUF_39 (R85). -/
def execWrKeyW9 (b0 b1 b2 b3 : Byte) (s : State) : Host.Outcome State Fault Refusal :=
  .next (writeKeyWord 9 b0 b1 b2 b3 s)

/-- WR_KEY_W10: KEYBUF_40..KEYBUF_43 (R85). -/
def execWrKeyW10 (b0 b1 b2 b3 : Byte) (s : State) : Host.Outcome State Fault Refusal :=
  .next (writeKeyWord 10 b0 b1 b2 b3 s)

/-- WR_KEY_W11: KEYBUF_44..KEYBUF_47 (R85). -/
def execWrKeyW11 (b0 b1 b2 b3 : Byte) (s : State) : Host.Outcome State Fault Refusal :=
  .next (writeKeyWord 11 b0 b1 b2 b3 s)

/-- WR_KEY_W12: KEYBUF_48..KEYBUF_51 (R85). -/
def execWrKeyW12 (b0 b1 b2 b3 : Byte) (s : State) : Host.Outcome State Fault Refusal :=
  .next (writeKeyWord 12 b0 b1 b2 b3 s)

/-- WR_KEY_W13: KEYBUF_52..KEYBUF_55 (R85). -/
def execWrKeyW13 (b0 b1 b2 b3 : Byte) (s : State) : Host.Outcome State Fault Refusal :=
  .next (writeKeyWord 13 b0 b1 b2 b3 s)

/-- WR_KEY_W14: KEYBUF_56..KEYBUF_59 (R85). -/
def execWrKeyW14 (b0 b1 b2 b3 : Byte) (s : State) : Host.Outcome State Fault Refusal :=
  .next (writeKeyWord 14 b0 b1 b2 b3 s)

/-- WR_KEY_W15: KEYBUF_60..KEYBUF_63 (R85). -/
def execWrKeyW15 (b0 b1 b2 b3 : Byte) (s : State) : Host.Outcome State Fault Refusal :=
  .next (writeKeyWord 15 b0 b1 b2 b3 s)

/-- A write to a read-only or reserved offset (R86): no effect. It has no row in the table (R63). -/
def execWrIgnored (s : State) : Host.Outcome State Fault Refusal := .next s

end Sys2Proof.Machine
end

