-- ==== Sys2Proof/Machine/Dispatch.lean ====
section
/-! DEFINITION. One arm for each instruction: a direct call of its meaning. -/

namespace Sys2Proof.Machine

def exec (i : Instr) (s : State) : Host.Outcome State Fault Refusal :=
  match i with
  | .cmdNop => Sys2Proof.Machine.execCmdNop s
  | .cmdStart => Sys2Proof.Machine.execCmdStart s
  | .cmdClear => Sys2Proof.Machine.execCmdClear s
  | .wrStatus doneClr errClr => Sys2Proof.Machine.execWrStatus doneClr errClr s
  | .wrIntEn doneIe errIe => Sys2Proof.Machine.execWrIntEn doneIe errIe s
  | .wrConfig digits => Sys2Proof.Machine.execWrConfig digits s
  | .wrKeyLen len => Sys2Proof.Machine.execWrKeyLen len s
  | .wrCounterHi value => Sys2Proof.Machine.execWrCounterHi value s
  | .wrCounterLo value => Sys2Proof.Machine.execWrCounterLo value s
  | .wrKeyW0 b0 b1 b2 b3 => Sys2Proof.Machine.execWrKeyW0 b0 b1 b2 b3 s
  | .wrKeyW1 b0 b1 b2 b3 => Sys2Proof.Machine.execWrKeyW1 b0 b1 b2 b3 s
  | .wrKeyW2 b0 b1 b2 b3 => Sys2Proof.Machine.execWrKeyW2 b0 b1 b2 b3 s
  | .wrKeyW3 b0 b1 b2 b3 => Sys2Proof.Machine.execWrKeyW3 b0 b1 b2 b3 s
  | .wrKeyW4 b0 b1 b2 b3 => Sys2Proof.Machine.execWrKeyW4 b0 b1 b2 b3 s
  | .wrKeyW5 b0 b1 b2 b3 => Sys2Proof.Machine.execWrKeyW5 b0 b1 b2 b3 s
  | .wrKeyW6 b0 b1 b2 b3 => Sys2Proof.Machine.execWrKeyW6 b0 b1 b2 b3 s
  | .wrKeyW7 b0 b1 b2 b3 => Sys2Proof.Machine.execWrKeyW7 b0 b1 b2 b3 s
  | .wrKeyW8 b0 b1 b2 b3 => Sys2Proof.Machine.execWrKeyW8 b0 b1 b2 b3 s
  | .wrKeyW9 b0 b1 b2 b3 => Sys2Proof.Machine.execWrKeyW9 b0 b1 b2 b3 s
  | .wrKeyW10 b0 b1 b2 b3 => Sys2Proof.Machine.execWrKeyW10 b0 b1 b2 b3 s
  | .wrKeyW11 b0 b1 b2 b3 => Sys2Proof.Machine.execWrKeyW11 b0 b1 b2 b3 s
  | .wrKeyW12 b0 b1 b2 b3 => Sys2Proof.Machine.execWrKeyW12 b0 b1 b2 b3 s
  | .wrKeyW13 b0 b1 b2 b3 => Sys2Proof.Machine.execWrKeyW13 b0 b1 b2 b3 s
  | .wrKeyW14 b0 b1 b2 b3 => Sys2Proof.Machine.execWrKeyW14 b0 b1 b2 b3 s
  | .wrKeyW15 b0 b1 b2 b3 => Sys2Proof.Machine.execWrKeyW15 b0 b1 b2 b3 s
  | .rdCtrl => Sys2Proof.Machine.execRdCtrl s
  | .rdStatus => Sys2Proof.Machine.execRdStatus s
  | .rdIntEn => Sys2Proof.Machine.execRdIntEn s
  | .rdConfig => Sys2Proof.Machine.execRdConfig s
  | .rdKeyLen => Sys2Proof.Machine.execRdKeyLen s
  | .rdCounterHi => Sys2Proof.Machine.execRdCounterHi s
  | .rdCounterLo => Sys2Proof.Machine.execRdCounterLo s
  | .rdKeyW0 => Sys2Proof.Machine.execRdKeyW0 s
  | .rdKeyW1 => Sys2Proof.Machine.execRdKeyW1 s
  | .rdKeyW2 => Sys2Proof.Machine.execRdKeyW2 s
  | .rdKeyW3 => Sys2Proof.Machine.execRdKeyW3 s
  | .rdKeyW4 => Sys2Proof.Machine.execRdKeyW4 s
  | .rdKeyW5 => Sys2Proof.Machine.execRdKeyW5 s
  | .rdKeyW6 => Sys2Proof.Machine.execRdKeyW6 s
  | .rdKeyW7 => Sys2Proof.Machine.execRdKeyW7 s
  | .rdKeyW8 => Sys2Proof.Machine.execRdKeyW8 s
  | .rdKeyW9 => Sys2Proof.Machine.execRdKeyW9 s
  | .rdKeyW10 => Sys2Proof.Machine.execRdKeyW10 s
  | .rdKeyW11 => Sys2Proof.Machine.execRdKeyW11 s
  | .rdKeyW12 => Sys2Proof.Machine.execRdKeyW12 s
  | .rdKeyW13 => Sys2Proof.Machine.execRdKeyW13 s
  | .rdKeyW14 => Sys2Proof.Machine.execRdKeyW14 s
  | .rdKeyW15 => Sys2Proof.Machine.execRdKeyW15 s
  | .rdDigestW0 => Sys2Proof.Machine.execRdDigestW0 s
  | .rdDigestW1 => Sys2Proof.Machine.execRdDigestW1 s
  | .rdDigestW2 => Sys2Proof.Machine.execRdDigestW2 s
  | .rdDigestW3 => Sys2Proof.Machine.execRdDigestW3 s
  | .rdDigestW4 => Sys2Proof.Machine.execRdDigestW4 s
  | .rdOffset => Sys2Proof.Machine.execRdOffset s
  | .rdTrunc => Sys2Proof.Machine.execRdTrunc s
  | .rdCodeValue => Sys2Proof.Machine.execRdCodeValue s
  | .rdCodeAscii0 => Sys2Proof.Machine.execRdCodeAscii0 s
  | .rdCodeAscii1 => Sys2Proof.Machine.execRdCodeAscii1 s
  | .rdCodeAscii2 => Sys2Proof.Machine.execRdCodeAscii2 s
  | .rdCodeDigits => Sys2Proof.Machine.execRdCodeDigits s

end Sys2Proof.Machine
end

