-- ==== Sys2Proof/Machine/Bus.lean ====
section
/-! DEFINITION. How accesses reach the block: the BusError check before decode (R41, R131), the rule a transaction word selects
(R55), the window (R40, R42), the reset input (R142, R145), and one turn of each agent (R7). -/

namespace Sys2Proof.Machine

/-- The rule that a decoded transaction selects (R55). A word that is no transaction word ends in a bus error (R54, R41). -/
def performDecoded (d : Decoded) (s : State) : Host.Outcome State Fault Refusal :=
  match d with
  | .instr i => exec i s
  | .rdReserved _ => execRdReserved s
  | .wrIgnored _ _ => execWrIgnored s
  | .cmdReserved _ => execCmdReserved s
  | .rejected (.misaligned off) => .fault (.busError off)

/-- An access to the window in a block that accepts transactions: BusError is decided before any decode (R131). -/
def accept (a : Access) (s : State) : Host.Outcome State Fault Refusal :=
  if a.wellFormed then performDecoded (decode a.word) s else .fault (.busError a.offset)

/-- An access to the window: refused before the first reset (R145) and while `rst` is asserted (R142). -/
def performAccess (a : Access) (s : State) : Host.Outcome State Fault Refusal :=
  match s.phase with
  | .unreset => .refused .accessBeforeReset
  | .inReset => .refused .accessDuringReset
  | .ready => accept a s

/-- An access by physical address: the block decodes only its own window (R40, R42). -/
def performBus (b : BusAccess) (s : State) : Host.Outcome State Fault Refusal :=
  match windowOffset b.addr with
  | some off => performAccess (busAccessAt b off) s
  | none => .refused (.outsideWindow b.addr)

/-- Whether the last value read meets a POLL: `(result & mask) = val` (R62). -/
def pollMet (mask val : Word) (reads : List Word) : Bool := reads.getLastD 0 &&& mask == val

/-- One turn of a POLL: one read, and the POLL again unless its value has appeared (R62). -/
def performPoll (off : BitVec 8) (mask val : Word) (s : State) : Host.Outcome State Fault Refusal :=
  match performAccess (readAt off) s with
  | .next t => if pollMet mask val t.reads then .next t else .next { t with host := .poll off mask val :: t.host }
  | .fault r => .fault r
  | .refused r => .refused r

/-- One operation of the HOST (R13, R45). -/
def performHostOp (op : HostOp) (s : State) : Host.Outcome State Fault Refusal :=
  match op with
  | .access a => performAccess a s
  | .bus b => performBus b s
  | .poll off mask val => performPoll off mask val s

/-- A turn of the HOST: its next operation; with none left, no step is taken and the block stays as it is (log 2). -/
def hostTurn (s : State) : Host.Outcome State Fault Refusal :=
  match s.host with
  | [] => .next s
  | op :: rest => performHostOp op { s with host := rest }

/-- A turn of the ENGINE: COMPLETE exactly when `fsm = BUSY` (R92); otherwise it has no step to take (log 1). Before the first
reset `fsm` is unspecified (R145). -/
def engineTurn (s : State) : Host.Outcome State Fault Refusal :=
  match s.phase with
  | .unreset => .refused .engineBeforeReset
  | .inReset => .next s
  | .ready =>
    match s.fsm with
    | .busy => .next (complete s)
    | .idle => .next s

/-- One turn of an agent (R7). -/
def takeTurn (t : Turn) (s : State) : Host.Outcome State Fault Refusal :=
  match t with
  | .host => hostTurn s
  | .engine => engineTurn s
  | .rstAssert => .next (assertReset s)
  | .rstRelease => .next (releaseReset s)
  | .powerUp => .next (powerUp s)

/-- Whose turn it is once `turns` is used up: COMPLETE is "eventually taken" (R94), so the engine's while BUSY; an asserted reset
is released; else the HOST's (DESIGN CHOICE, log 1). -/
def defaultTurn (s : State) : Turn :=
  match s.phase with
  | .unreset => .host
  | .inReset => .rstRelease
  | .ready =>
    match s.fsm with
    | .busy => .engine
    | .idle => .host

end Sys2Proof.Machine
end

