-- ==== Sys2Proof/Machine/Step.lean ====
section
/-! DEFINITION. One step of the machine: one atomic step of one agent (R7, R45). -/

namespace Sys2Proof.Machine

/-- One step: the agent that `turns` names takes its turn (R7, R94; log 1). -/
def step (s : State) : Host.Outcome State Fault Refusal :=
  match s.turns with
  | t :: rest => takeTurn t { s with turns := rest }
  | [] => takeTurn (defaultTurn s) s

/-- The same state with one more transaction, that of the table word `w`, as the HOST's next access and the HOST's turn next: the
very next step performs it. The HOST issues programs from outside the block (R13, R50; log 2). -/
def State.withFetchWord (s : State) (nbits w : Nat) : State :=
  { s with
    host := .access (accessOfWord (BitVec.ofNat 41 (w % 2 ^ nbits))) :: s.host
    turns := .host :: s.turns }

end Sys2Proof.Machine
end

