-- ==== Sys2Proof/Machine/HostProgram.lean ====
section
/-! DEFINITION. Host programs: the transactions that the syntax of R61 and the pseudo-instructions of R62 stand for. -/

namespace Sys2Proof.Machine

/-- `WR R, v` (R61). -/
def wrOp (r : Reg) (v : Word) : HostOp := .access (writeAt r.off v)

/-- `RD R` (R61). -/
def rdOp (r : Reg) : HostOp := .access (readAt r.off)

/-- The writes of `LOADKEY`: word j for j = 0 .. ceil(n/4)-1, "with missing bytes past n taken as 0x00", then KEY_LEN (R62). -/
def loadKeyOps (key : List Byte) : List HostOp :=
  (List.range ((key.length + 3) / 4)).map (fun j => wrOp (.raw (BitVec.ofNat 8 (0x20 + 4 * j))) (wordBE key j)) ++
    [wrOp .keyLen (BitVec.ofNat 32 key.length)]

/-- The transactions of a line (R61, R62). -/
def expandLine (l : HostLine) : List HostOp :=
  match l with
  | .wr r v => [wrOp r v]
  | .rd r => [rdOp r]
  | .cmdNop => [wrOp .ctrl 0]
  | .cmdStart => [wrOp .ctrl 1]
  | .cmdClear => [wrOp .ctrl 2]
  | .ack => [wrOp .status 0x6]
  | .digits d => [wrOp .config d]
  | .loadCtr c => [wrOp .counterHi (c.extractLsb' 32 32), wrOp .counterLo (c.extractLsb' 0 32)]
  | .loadKey key => loadKeyOps key
  | .wait => [.poll Reg.status.off 0x1 0]
  | .poll r mask val => [.poll r.off mask val]
  | .readCode =>
    [rdOp .status, rdOp .codeDigits, rdOp .codeValue, rdOp (.codeAscii 0), rdOp (.codeAscii 1), rdOp (.codeAscii 2)]

/-- The transactions of a host program, in order (R13). -/
def expandProgram (p : List HostLine) : List HostOp := p.flatMap expandLine

/-- The same state with a host program issued after the accesses already pending (R13, R48; log 2). -/
def State.withProgram (p : List HostLine) (s : State) : State := { s with host := s.host ++ expandProgram p }

end Sys2Proof.Machine
end

