-- ==== Sys2Proof/Safety.lean ====
section
/-! DEFINITION. The terms claims are made in: the states the block can be in after a reset, runs that do not stop, and what the
spec says of the result registers as a whole (R125, R126). -/

namespace Sys2Proof.Machine

/-! ## Runs -/

/-- `n` steps, stopping at the first fault or refusal: a safe run of n steps is one that answers `next`. -/
def runFor : Nat → State → Host.Outcome State Fault Refusal
  | 0, s => .next s
  | n + 1, s =>
    match step s with
    | .next t => runFor n t
    | .fault r => .fault r
    | .refused r => .refused r

/-! ## The result registers as byte arrays (R43, R125) -/

/-- The 20 digest bytes held in DIGEST_W0..DIGEST_W4 (R28). -/
def State.digestBytes (s : State) : List Byte := s.digest.toList.flatMap be4

/-- The 12 bytes of the code buffer held in CODE_ASCII0..CODE_ASCII2 (R32). -/
def State.codeBytes (s : State) : List Byte := s.codeAscii.toList.flatMap be4

/-- An ASCII digit character '0'..'9' (R123). -/
def isDigitChar (c : Byte) : Bool := decide (0x30 ≤ c.toNat ∧ c.toNat ≤ 0x39)

/-- The number that a string of ASCII digits spells in decimal, most significant digit first. -/
def decimalValue (chars : List Byte) : Nat := chars.foldl (fun acc c => 10 * acc + (c.toNat - 0x30)) 0

/-- The first `d` of 12 bytes spell `val` in decimal with left zero-padding, and the other bytes are 0x00 (R125). -/
structure Spells (bytes : List Byte) (val d : Nat) : Prop where
  length : bytes.length = 12
  digits : ∀ c ∈ bytes.take d, isDigitChar c = true
  value  : decimalValue (bytes.take d) = val
  rest   : ∀ c ∈ bytes.drop d, c = 0x00

/-- Every result register is 0: no result is held (R28-R33). -/
structure State.NoResult (s : State) : Prop where
  digest     : s.digest = Vector.replicate 5 0
  offset     : s.offset = 0
  trunc      : s.trunc = 0
  codeValue  : s.codeValue = 0
  codeAscii  : s.codeAscii = Vector.replicate 3 0
  codeDigits : s.codeDigits = 0

/-- The result registers are consistent with one another (R125). -/
structure State.ResultConsistent (s : State) : Prop where
  digits : 1 ≤ s.codeDigits.toNat ∧ s.codeDigits.toNat ≤ 9
  offset : zext32 s.offset = s.digest[4] &&& 0xF
  trunc  : s.trunc = trunc31 s.digestBytes s.offset.toNat
  value  : s.codeValue.toNat = s.trunc.toNat % 10 ^ s.codeDigits.toNat
  spells : Spells s.codeBytes s.codeValue.toNat s.codeDigits.toNat

/-- A snapshot an accepted START can have taken (R36). -/
structure Snapshot.Legal (w : Snapshot) : Prop where
  length : w.key.length = w.keylen
  keylen : w.keylen ≤ 64
  digits : 1 ≤ w.digits.toNat ∧ w.digits.toNat ≤ 9

/-- The states the block can be in once it has been reset. -/
structure State.Legal (s : State) : Prop where
  /-- ERR_CODE "is 0 whenever ERR = 0" (R21). -/
  noError : s.err = false → s.errCode = 0
  /-- With ERR = 1 the code is one of 1..4: "the values 5 to 15 are never produced" (R21, R128). -/
  error : s.err = true → 1 ≤ s.errCode.toNat ∧ s.errCode.toNat ≤ 4
  /-- In IDLE the snapshot has been erased (R36, R92). -/
  idle : s.fsm = .idle → s.wk = .zero
  /-- In BUSY it is that of an accepted START, DONE is 0 and no result is held (R36, R89, R148). -/
  busy : s.fsm = .busy → s.wk.Legal ∧ s.done = false ∧ s.NoResult
  /-- CODE_DIGITS = 0 means "no valid result held" (R33). -/
  noResult : s.codeDigits = 0 → s.NoResult
  /-- Otherwise the registers hold one result (R125). -/
  result : s.codeDigits ≠ 0 → s.ResultConsistent
  /-- DONE: "a result has been written to the result registers and is valid" (R19). -/
  done : s.done = true → s.codeDigits ≠ 0
  /-- While `rst` stays asserted the block holds the reset state (R142). -/
  inReset : s.phase = .inReset → s = applyReset s

/-- The invariant of every step: after a reset the state is legal; before it every value is unspecified (R145). -/
def State.Inv (s : State) : Prop := s.phase ≠ .unreset → s.Legal

/-! ## Words for statements -/

/-- The same result is held in both states: every result register agrees (R14, "Result registers"). -/
structure SameResult (s t : State) : Prop where
  digest     : t.digest = s.digest
  offset     : t.offset = s.offset
  trunc      : t.trunc = s.trunc
  codeValue  : t.codeValue = s.codeValue
  codeAscii  : t.codeAscii = s.codeAscii
  codeDigits : t.codeDigits = s.codeDigits

/-- Both states hold the same inputs of a computation: KEY_LEN, the first LEN bytes of KEYBUF, the counter and DIGITS (R95). -/
structure SameInputs (s t : State) : Prop where
  keyLen    : t.keyLen = s.keyLen
  keyBytes  : ∀ (j : Nat) (hj : j < 64), j < s.keyLen.toNat → t.keybuf[j] = s.keybuf[j]
  counterHi : t.counterHi = s.counterHi
  counterLo : t.counterLo = s.counterLo
  digits    : t.digits = s.digits

/-- A START in IDLE would be accepted: LEN and DIGITS pass its checks (R89). -/
def State.StartReady (s : State) : Prop :=
  s.fsm = .idle ∧ s.keyLen.toNat ≤ 64 ∧ 1 ≤ s.digits.toNat ∧ s.digits.toNat ≤ 9

/-- The outcome of a write of KEY_Wn with the bytes b0..b3 at state s: a next state that differs from s in those four bytes of
KEYBUF only (R27, R85). -/
def WritesKeyWord (o : Host.Outcome State Fault Refusal) (s : State) (n : Nat) (b0 b1 b2 b3 : Byte) : Prop :=
  ∃ k : Vector Byte 64, o = .next { s with keybuf := k } ∧
    ∀ (j : Nat) (hj : j < 64), k[j] =
      if j = 4 * n then b0 else if j = 4 * n + 1 then b1 else if j = 4 * n + 2 then b2
      else if j = 4 * n + 3 then b3 else s.keybuf[j]

/-- The DATA bits of the fields of a form (R56, R59; `source_fields` of the opcode table): none of a read's. -/
def fieldMask (w : Bool) (off : BitVec 8) : Word :=
  if w = false then 0x00000000
  else if off = 0x00#8 then 0x0000000F
  else if off = 0x04#8 then 0x00000006
  else if off = 0x08#8 then 0x00000003
  else if off = 0x0C#8 then 0x0000000F
  else if off = 0x10#8 then 0x000000FF
  else 0xFFFFFFFF

/-- A read that returns `v` and changes nothing else (R46). -/
def Returns (o : Host.Outcome State Fault Refusal) (s : State) (v : Word) : Prop :=
  o = .next { s with reads := s.reads ++ [v] }

end Sys2Proof.Machine
end

