-- ==== Sys2Proof/Certificates/Slice0/Obligations.lean ====
section
/-! DEFINITION. The statements for the provers. Each docstring names the rules of spec/ the statement rests on. -/

open Sys2Proof Sys2Proof.Machine

/-- Decoding the encoding of an instruction gives it back, for all 60 instructions and all operands (R54, R57, R59, R61, R63). -/
def Obligations.DecodeOfEncodeIsTheInstruction : Prop :=
  ∀ i : Instr, i.wellFormed = true → decode (encode i) = .instr i

/-- Re-encoding a decoded word keeps W, OFF and exactly the DATA bits of its fields (R54, R56, R57, R59). -/
def Obligations.EncodeOfDecodeKeepsTheFields : Prop :=
  ∀ (t : TxnWord) (i : Instr), decode t = .instr i →
    encode i = txnWord (txnW t) (txnOff t) (txnData t &&& fieldMask (txnW t) (txnOff t))

/-- A transaction word decodes to an instruction of a row exactly when the row's match and mask cover it (R55, R57, R63). -/
def Obligations.DecoderFollowsTheOpcodeTable : Prop :=
  ∀ r ∈ opcodeTable, ∀ t : TxnWord,
    r.covers t = true ↔ ∃ i : Instr, decode t = .instr i ∧ i.mnemonic = r.mnemonic

/-- No transaction word is covered by two rows of the opcode table (R55, R63). -/
def Obligations.OpcodeTableRowsAreDisjoint : Prop :=
  ∀ r₁ ∈ opcodeTable, ∀ r₂ ∈ opcodeTable, ∀ t : TxnWord, r₁.covers t = true → r₂.covers t = true → r₁ = r₂

/-- A transaction word that no row covers is a reserved read, an ignored write or a reserved command (R55, R58, R63). -/
def Obligations.WordsWithoutARowDecodeAsTheRulesSay : Prop :=
  ∀ t : TxnWord, offsetAligned (txnOff t) = true → (∀ r ∈ opcodeTable, r.covers t = false) →
    (txnW t = false → decode t = .rdReserved (txnOff t) ∧ (txnOff t = 0x1C#8 ∨ 0x90 ≤ (txnOff t).toNat)) ∧
    (txnW t = true → txnOff t = 0x00#8 →
      decode t = .cmdReserved ((txnData t).extractLsb' 0 4) ∧ 3 ≤ ((txnData t).extractLsb' 0 4).toNat) ∧
    (txnW t = true → txnOff t ≠ 0x00#8 →
      decode t = .wrIgnored (txnOff t) (txnData t) ∧ (txnOff t = 0x1C#8 ∨ 0x60 ≤ (txnOff t).toNat))

/-- Transaction words written out in the spec decode to the instructions they stand for (R57, R58, R59, R63). -/
def Obligations.WordsOfTheSpecDecode : Prop :=
  decode 0x100ABCDEF01#41 = .instr .cmdStart ∧ decode 0x100FFFFFFF0#41 = .instr .cmdNop ∧
    decode 0x10000000002#41 = .instr .cmdClear ∧ decode 0x10000000003#41 = .cmdReserved 3 ∧
    decode 0x10C0000001F#41 = .instr (.wrConfig 15) ∧ decode 0x10400000004#41 = .instr (.wrStatus false true) ∧
    decode 0x12031323334#41 = .instr (.wrKeyW0 0x31 0x32 0x33 0x34) ∧ decode 0x07C00000000#41 = .instr .rdCodeValue ∧
    decode 0x09000000000#41 = .rdReserved 0x90 ∧ decode 0x17C0001E240#41 = .wrIgnored 0x7C 0x0001E240

/-- When the next access decodes to an instruction, a HOST turn is exec of it at the state with that access taken. The clause for an
empty `turns` rests on the default turn, which is the model's choice (log 1), on no rule; the lists `host` and `turns` are the
model's own (log 1, log 2) (R45, R48, R55). -/
def Obligations.AHostTurnPerformsTheDecodedInstruction : Prop :=
  ∀ (s : State) (a : Access) (rest : List HostOp) (ts : List Turn) (i : Instr), s.phase = .ready →
    s.host = .access a :: rest → a.wellFormed = true → decode a.word = .instr i →
    (s.turns = .host :: ts → step s = exec i { s with host := rest, turns := ts }) ∧
    (s.turns = [] → s.fsm = .idle → step s = exec i { s with host := rest })

/-- The instruction of an issued table word runs as the very next step. That it is the next step is the construction of
`withFetchWord`, the model's own interface (log 2), not a rule: any agent may step next (R7) (R45, R54, R63). -/
def Obligations.AnIssuedTableWordRunsNext : Prop :=
  ∀ (s : State) (nbits w : Nat) (i : Instr), s.phase = .ready → decodeTableWord nbits w = some i →
    step (s.withFetchWord nbits w) = exec i s

/-- Every instruction ends in a next state, with the agents around the block untouched (R55, R131, R132). -/
def Obligations.EveryInstructionCompletes : Prop :=
  ∀ (i : Instr) (s : State), ∃ t, exec i s = .next t ∧ t.phase = s.phase ∧ t.host = s.host ∧ t.turns = s.turns ∧
    t.powerUps = s.powerUps ∧ ∃ vs, t.reads = s.reads ++ vs ∧ vs.length ≤ 1

/-- An access to a ready block faults exactly when its size is not 4 or its offset is not a multiple of 4. That the fault ends the
run is the model's choice (log 4) (R41, R130, R131). -/
def Obligations.OnlyMisfitAccessesRaiseBusError : Prop :=
  ∀ (a : Access) (s : State), s.phase = .ready →
    ((a.size ≠ 4 ∨ a.offset.toNat % 4 ≠ 0) → performAccess a s = .fault (.busError a.offset)) ∧
    (a.size = 4 → a.offset.toNat % 4 = 0 → performAccess a s = performDecoded (decode a.word) s ∧
      ∃ t, performAccess a s = .next t)

/-- An access by physical address reaches the window exactly for BASE..BASE+0xFF, for every BASE. That one outside it is refused is
the model's choice (log 5) (R12, R40, R42). -/
def Obligations.TheWindowIsAtBase : Prop :=
  Config.base % 0x100 = 0 ∧
    (∀ (w : Bool) (size o : Nat) (v : Word) (s : State), o < 256 →
      performBus { write := w, size := size, addr := Config.base + o, data := v } s =
        performAccess { write := w, size := size, offset := BitVec.ofNat 8 o, data := v } s) ∧
    (∀ (b : BusAccess) (s : State), b.addr < Config.base ∨ Config.base + 0xFF < b.addr →
      performBus b s = .refused (.outsideWindow b.addr))

/-- A read of a reserved offset returns 0 and changes nothing (R78). -/
def Obligations.ReservedReadsReturnZero : Prop :=
  ∀ (off : BitVec 8) (v : Word) (s : State), s.phase = .ready →
    (off = 0x1C#8 ∨ (0x90 ≤ off.toNat ∧ off.toNat % 4 = 0)) →
    Returns (performAccess { write := false, size := 4, offset := off, data := v } s) s 0

/-- A write to a read-only or reserved offset has no effect (R86). -/
def Obligations.WritesToReadOnlyOrReservedOffsetsAreIgnored : Prop :=
  ∀ (off : BitVec 8) (v : Word) (s : State), s.phase = .ready →
    (off = 0x1C#8 ∨ (0x60 ≤ off.toNat ∧ off.toNat % 4 = 0)) → performAccess (writeAt off v) s = .next s

/-- A CTRL write with CMD 3..15 sets ERR with code 4 and does nothing else (R91). -/
def Obligations.ReservedCommandsOnlySetErrCmd : Prop :=
  ∀ (v : Word) (s : State), s.phase = .ready → 3 ≤ v.toNat % 16 →
    performAccess (writeAt 0x00#8 v) s = .next { s with err := true, errCode := 4 }

/-- Each register write stores exactly the DATA bits of its fields (R59). -/
def Obligations.RegisterWritesStoreTheirDataFields : Prop :=
  ∀ (v : Word) (s : State), s.phase = .ready →
    performAccess (writeAt 0x08#8 v) s = .next { s with doneIe := v.getLsbD 0, errIe := v.getLsbD 1 } ∧
    performAccess (writeAt 0x0C#8 v) s = .next { s with digits := v.extractLsb' 0 4 } ∧
    performAccess (writeAt 0x10#8 v) s = .next { s with keyLen := v.extractLsb' 0 8 } ∧
    performAccess (writeAt 0x14#8 v) s = .next { s with counterHi := v } ∧
    performAccess (writeAt 0x18#8 v) s = .next { s with counterLo := v } ∧
    (∀ n < 16, WritesKeyWord (performAccess (writeAt (BitVec.ofNat 8 (0x20 + 4 * n)) v) s) s n
      (v.extractLsb' 24 8) (v.extractLsb' 16 8) (v.extractLsb' 8 8) (v.extractLsb' 0 8)) ∧
    performAccess (writeAt 0x04#8 v) s = .next { s with
      done := if v.getLsbD 1 then false else s.done
      err := if v.getLsbD 2 then false else s.err
      errCode := if v.getLsbD 2 then 0 else s.errCode }

/-- A CTRL write performs the command of DATA[3:0], whatever DATA[31:4] is (R56, R57, R58, R87). -/
def Obligations.CtrlWritesIgnoreTheUpperDataBits : Prop :=
  ∀ (v : Word) (s : State), s.phase = .ready →
    (v.toNat % 16 = 0 → performAccess (writeAt 0x00#8 v) s = exec .cmdNop s) ∧
    (v.toNat % 16 = 1 → performAccess (writeAt 0x00#8 v) s = exec .cmdStart s) ∧
    (v.toNat % 16 = 2 → performAccess (writeAt 0x00#8 v) s = exec .cmdClear s)

/-- RD_CTRL, RD_STATUS and RD_INT_EN return the words the rules give (R64, R65, R66). -/
def Obligations.ControlRegisterReads : Prop :=
  ∀ s : State, Returns (exec .rdCtrl s) s 0 ∧
    Returns (exec .rdStatus s) s (0#24 ++ s.errCode ++ 0#1 ++ BitVec.ofBool s.err ++ BitVec.ofBool s.done ++
      BitVec.ofBool (decide (s.fsm = .busy))) ∧
    Returns (exec .rdIntEn s) s (0#30 ++ BitVec.ofBool s.errIe ++ BitVec.ofBool s.doneIe)

/-- RD_CONFIG, RD_KEY_LEN, RD_COUNTER_HI and RD_COUNTER_LO return the stored field (R67, R68, R69, R70). -/
def Obligations.InputRegisterReads : Prop :=
  ∀ s : State, Returns (exec .rdConfig s) s (0#28 ++ s.digits) ∧ Returns (exec .rdKeyLen s) s (0#24 ++ s.keyLen) ∧
    Returns (exec .rdCounterHi s) s s.counterHi ∧ Returns (exec .rdCounterLo s) s s.counterLo ∧
    (complete s).counterHi = s.counterHi ∧ (complete s).counterLo = s.counterLo

/-- RD_KEY_W0..RD_KEY_W15 return 0, whatever the key buffer holds (R71). -/
def Obligations.KeyReadsReturnZero : Prop :=
  ∀ s : State, Returns (exec .rdKeyW0 s) s 0 ∧
    Returns (exec .rdKeyW1 s) s 0 ∧
    Returns (exec .rdKeyW2 s) s 0 ∧
    Returns (exec .rdKeyW3 s) s 0 ∧
    Returns (exec .rdKeyW4 s) s 0 ∧
    Returns (exec .rdKeyW5 s) s 0 ∧
    Returns (exec .rdKeyW6 s) s 0 ∧
    Returns (exec .rdKeyW7 s) s 0 ∧
    Returns (exec .rdKeyW8 s) s 0 ∧
    Returns (exec .rdKeyW9 s) s 0 ∧
    Returns (exec .rdKeyW10 s) s 0 ∧
    Returns (exec .rdKeyW11 s) s 0 ∧
    Returns (exec .rdKeyW12 s) s 0 ∧
    Returns (exec .rdKeyW13 s) s 0 ∧
    Returns (exec .rdKeyW14 s) s 0 ∧
    Returns (exec .rdKeyW15 s) s 0

/-- The reads of the result registers return the registers, with 0 in their reserved bits (R72, R73, R74, R75, R76, R77). -/
def Obligations.ResultRegisterReads : Prop :=
  ∀ s : State, Returns (exec .rdDigestW0 s) s s.digest[0] ∧
    Returns (exec .rdDigestW1 s) s s.digest[1] ∧
    Returns (exec .rdDigestW2 s) s s.digest[2] ∧
    Returns (exec .rdDigestW3 s) s s.digest[3] ∧
    Returns (exec .rdDigestW4 s) s s.digest[4] ∧
    Returns (exec .rdOffset s) s (0#28 ++ s.offset) ∧
    Returns (exec .rdTrunc s) s (0#1 ++ s.trunc) ∧
    Returns (exec .rdCodeValue s) s (0#2 ++ s.codeValue) ∧
    Returns (exec .rdCodeAscii0 s) s s.codeAscii[0] ∧
    Returns (exec .rdCodeAscii1 s) s s.codeAscii[1] ∧
    Returns (exec .rdCodeAscii2 s) s s.codeAscii[2] ∧
    Returns (exec .rdCodeDigits s) s (0#28 ++ s.codeDigits)

/-- No read changes any state of the block (R46). -/
def Obligations.ReadsHaveNoSideEffects : Prop :=
  (∀ (i : Instr) (s : State), txnW (encode i) = false → ∃ v, Returns (exec i s) s v) ∧
    ∀ (a : Access) (s : State), s.phase = .ready → a.write = false → a.wellFormed = true →
      ∃ v, Returns (performAccess a s) s v ∧
        Returns (performAccess a { s with reads := s.reads ++ [v] }) { s with reads := s.reads ++ [v] } v

/-- WR_STATUS clears DONE and ERR with ERR_CODE, each only by its own strobe (R79). -/
def Obligations.StatusWriteClearsOnlyTheStrobedBits : Prop :=
  ∀ (d e : Bool) (s : State), exec (.wrStatus d e) s = .next { s with
      done := if d then false else s.done
      err := if e then false else s.err
      errCode := if e then 0 else s.errCode } ∧
    (s.phase = .ready → ∀ v : Word,
      performAccess (writeAt 0x04#8 v) s = exec (.wrStatus (v.getLsbD 1) (v.getLsbD 2)) s)

/-- WR_INT_EN, WR_CONFIG, WR_KEY_LEN, WR_COUNTER_HI and WR_COUNTER_LO store their field and nothing else (R81, R82, R83, R84). -/
def Obligations.InputWritesStoreTheirField : Prop :=
  ∀ (s : State) (a b : Bool) (d : BitVec 4) (l : BitVec 8) (c : Word),
    exec (.wrIntEn a b) s = .next { s with doneIe := a, errIe := b } ∧
    exec (.wrConfig d) s = .next { s with digits := d } ∧ exec (.wrKeyLen l) s = .next { s with keyLen := l } ∧
    exec (.wrCounterHi c) s = .next { s with counterHi := c } ∧ exec (.wrCounterLo c) s = .next { s with counterLo := c } ∧
    (s.phase = .ready →
      performAccess (writeAt 0x0C#8 c) s = exec (.wrConfig (c.extractLsb' 0 4)) s ∧
      performAccess (writeAt 0x10#8 c) s = exec (.wrKeyLen (c.extractLsb' 0 8)) s ∧
      performAccess (writeAt 0x14#8 c) s = exec (.wrCounterHi c) s ∧
      performAccess (writeAt 0x18#8 c) s = exec (.wrCounterLo c) s)

/-- WR_KEY_W0..WR_KEY_W15 store their four bytes big-endian and leave every other byte and register alone (R85). -/
def Obligations.KeyWritesStoreFourBytes : Prop :=
  (∀ (b0 b1 b2 b3 : Byte) (s : State), WritesKeyWord (exec (.wrKeyW0 b0 b1 b2 b3) s) s 0 b0 b1 b2 b3 ∧
    WritesKeyWord (exec (.wrKeyW1 b0 b1 b2 b3) s) s 1 b0 b1 b2 b3 ∧
    WritesKeyWord (exec (.wrKeyW2 b0 b1 b2 b3) s) s 2 b0 b1 b2 b3 ∧
    WritesKeyWord (exec (.wrKeyW3 b0 b1 b2 b3) s) s 3 b0 b1 b2 b3 ∧
    WritesKeyWord (exec (.wrKeyW4 b0 b1 b2 b3) s) s 4 b0 b1 b2 b3 ∧
    WritesKeyWord (exec (.wrKeyW5 b0 b1 b2 b3) s) s 5 b0 b1 b2 b3 ∧
    WritesKeyWord (exec (.wrKeyW6 b0 b1 b2 b3) s) s 6 b0 b1 b2 b3 ∧
    WritesKeyWord (exec (.wrKeyW7 b0 b1 b2 b3) s) s 7 b0 b1 b2 b3 ∧
    WritesKeyWord (exec (.wrKeyW8 b0 b1 b2 b3) s) s 8 b0 b1 b2 b3 ∧
    WritesKeyWord (exec (.wrKeyW9 b0 b1 b2 b3) s) s 9 b0 b1 b2 b3 ∧
    WritesKeyWord (exec (.wrKeyW10 b0 b1 b2 b3) s) s 10 b0 b1 b2 b3 ∧
    WritesKeyWord (exec (.wrKeyW11 b0 b1 b2 b3) s) s 11 b0 b1 b2 b3 ∧
    WritesKeyWord (exec (.wrKeyW12 b0 b1 b2 b3) s) s 12 b0 b1 b2 b3 ∧
    WritesKeyWord (exec (.wrKeyW13 b0 b1 b2 b3) s) s 13 b0 b1 b2 b3 ∧
    WritesKeyWord (exec (.wrKeyW14 b0 b1 b2 b3) s) s 14 b0 b1 b2 b3 ∧
    WritesKeyWord (exec (.wrKeyW15 b0 b1 b2 b3) s) s 15 b0 b1 b2 b3) ∧
    ∀ (v : Word) (s : State), s.phase = .ready → ∀ n < 16,
      WritesKeyWord (performAccess (writeAt (BitVec.ofNat 8 (0x20 + 4 * n)) v) s) s n
        (v.extractLsb' 24 8) (v.extractLsb' 16 8) (v.extractLsb' 8 8) (v.extractLsb' 0 8)

/-- irq is (DONE & DONE_IE) | (ERR & ERR_IE) of the words read from STATUS and INT_EN, and follows a WR_INT_EN at once (R37, R80, R134, R135). -/
def Obligations.InterruptLevelFollowsStatusAndEnable : Prop :=
  ∀ s : State,
    s.irq = ((s.statusWord.getLsbD 1 && s.intEnWord.getLsbD 0) || (s.statusWord.getLsbD 2 && s.intEnWord.getLsbD 1)) ∧
    (∀ a b : Bool, ∃ t, exec (.wrIntEn a b) s = .next t ∧ t.irq = ((s.done && a) || (s.err && b))) ∧
    (s.StartReady → ∃ t, exec .cmdStart s = .next t ∧ t.irq = false) ∧
    (∃ t, exec .cmdClear s = .next t ∧ t.irq = false)

/-- CMD_NOP has no effect, in IDLE and in BUSY (R88). -/
def Obligations.NopLeavesAllStateUnchanged : Prop :=
  ∀ s : State, exec .cmdNop s = .next s ∧
    (s.phase = .ready → ∀ v : Word, v.toNat % 16 = 0 → performAccess (writeAt 0x00#8 v) s = .next s)

/-- START in IDLE with LEN <= 64 and DIGITS 1..9 clears the old result and status and snapshots the inputs (R19, R20, R26, R36, R89). -/
def Obligations.AcceptedStartTakesTheSnapshot : Prop :=
  ∀ s : State, s.StartReady → ∃ key : List Byte, key.length = s.keyLen.toNat ∧
    (∀ (j : Nat) (hj : j < 64), j < s.keyLen.toNat → key[j]? = some s.keybuf[j]) ∧
    exec .cmdStart s = .next { s with
      done := false, err := false, errCode := 0
      digest := Vector.replicate 5 0, offset := 0, trunc := 0, codeValue := 0
      codeAscii := Vector.replicate 3 0, codeDigits := 0
      fsm := .busy
      wk := { key := key, keylen := s.keyLen.toNat, counter := s.counterHi ++ s.counterLo, digits := s.digits } }

/-- START while BUSY sets ERR with code 3 and changes nothing else (R150). -/
def Obligations.StartWhileBusyIsRefused : Prop :=
  ∀ s : State, s.fsm = .busy →
    exec .cmdStart s = .next { s with err := true, errCode := 3 } ∧
    (∀ ts, s.phase = .ready → ∃ t, step { s with turns := .engine :: ts } = .next t ∧ t.done = true ∧
      ∃ u, step { s with turns := .engine :: ts, err := true, errCode := 3 } = .next u ∧ SameResult t u ∧
        u.done = true ∧ u.err = true ∧ u.errCode = 3)

/-- The checks of a transaction in their order: BusError before decode, then BUSY, then KEY_LEN, then DIGITS (R131). -/
def Obligations.StartChecksKeyLenThenDigits : Prop :=
  (∀ s : State, s.fsm = .busy → exec .cmdStart s = .next { s with err := true, errCode := 3 }) ∧
    (∀ s : State, s.fsm = .idle → (s.keyLen.toNat > 64 ∨ s.digits.toNat = 0 ∨ s.digits.toNat > 9) →
      exec .cmdStart s = .next { s with
        done := false, err := true, errCode := if s.keyLen.toNat > 64 then 2 else 1
        digest := Vector.replicate 5 0, offset := 0, trunc := 0, codeValue := 0
        codeAscii := Vector.replicate 3 0, codeDigits := 0 }) ∧
    (∀ (a : Access) (s : State), s.phase = .ready → a.size ≠ 4 ∨ a.offset.toNat % 4 ≠ 0 →
      performAccess a s = .fault (.busError a.offset))

/-- CLEAR gives every register, fsm and wk its reset value (R39, R90). -/
def Obligations.ClearRestoresTheResetValues : Prop :=
  ∀ s : State, exec .cmdClear s = .next
    { done := false, err := false, errCode := 0, doneIe := false, errIe := false, digits := 6, keyLen := 10
      counterHi := 0, counterLo := 0, keybuf := Vector.replicate 64 0, digest := Vector.replicate 5 0
      offset := 0, trunc := 0, codeValue := 0, codeAscii := Vector.replicate 3 0, codeDigits := 0
      fsm := .idle, wk := { key := [], keylen := 0, counter := 0, digits := 0 }
      phase := s.phase, host := s.host, turns := s.turns, reads := s.reads, powerUps := s.powerUps }

/-- CLEAR gives the state that asserting and releasing reset gives. That an ENGINE turn in IDLE is a step which leaves the state as
it is (log 1), and that the release is a turn of its own (log 6), are the model's choices (R142, R146, R152). -/
def Obligations.ClearHasTheEffectOfReset : Prop :=
  ∀ (s : State) (ts : List Turn), s.phase = .ready → ∃ u v t,
    step { s with turns := .rstAssert :: .rstRelease :: ts } = .next u ∧ u.phase = .inReset ∧ step u = .next v ∧
    exec .cmdClear { s with turns := ts } = .next t ∧ v = t ∧ t.phase = .ready ∧
    step { t with turns := .engine :: ts } = .next t

/-- The reset state holds the values the spec states (R39, R143). -/
def Obligations.ResetLeavesTheStatedValues : Prop :=
  State.reset.fsm = .idle ∧ State.reset.statusWord = 0x00000000 ∧ State.reset.intEnWord = 0x00000000 ∧
    State.reset.digits = 6 ∧ State.reset.keyLen = 0x0A ∧ State.reset.counterHi = 0 ∧ State.reset.counterLo = 0 ∧
    (∀ (j : Nat) (hj : j < 64), State.reset.keybuf[j] = 0x00) ∧ State.reset.NoResult ∧
    State.reset.wk = { key := [], keylen := 0, counter := 0, digits := 0 } ∧ State.reset.irq = false

/-- Asserting rst gives every register its reset value from any state, and until the release no access is accepted. The refusal of
an access by name and the ENGINE turn without effect are the model's choices (log 1, log 6) (R142, R143, R144). -/
def Obligations.ResetInputAbortsAndBlocksAccesses : Prop :=
  ∀ (s : State) (ts : List Turn), ∃ t, step { s with turns := .rstAssert :: ts } = .next t ∧
    t = { State.reset with phase := .inReset, host := s.host, turns := ts, reads := s.reads, powerUps := s.powerUps } ∧
    (∀ a : Access, performAccess a t = .refused .accessDuringReset) ∧
    step { t with turns := .engine :: ts } = .next t ∧
    step { t with turns := .rstRelease :: ts } = .next { t with phase := .ready }

/-- After power-up, whatever the registers hold, every access is refused until a reset. The refusal of an ENGINE turn, the release
that does nothing and the power-up turn that keeps `host` and `reads` are the model's choices (log 7), on no rule (R140, R145). -/
def Obligations.AccessesBeforeTheFirstResetAreRefused : Prop :=
  ∀ (s : State) (ts : List Turn), ∃ t, step { s with turns := .powerUp :: ts } = .next t ∧ t.phase = .unreset ∧
    t.host = s.host ∧ t.reads = s.reads ∧
    (∀ a : Access, performAccess a t = .refused .accessBeforeReset) ∧
    step { t with turns := .engine :: ts } = .refused .engineBeforeReset ∧
    step { t with turns := .rstRelease :: ts } = .next t ∧
    step { t with turns := .rstAssert :: ts } = .next { State.reset with
      phase := .inReset, host := s.host, turns := ts, reads := s.reads, powerUps := t.powerUps }

/-- COMPLETE writes the HMAC, offset, 31-bit value, code and code string of the snapshot, and sets DONE. For wk.digits = 0 and for a
wk.key longer than 64 bytes, which no accepted START takes, it holds by the model's choice (log 14) (R28, R92, R93). -/
def Obligations.CompleteWritesTheResult : Prop :=
  ∀ (s : State) (ts : List Turn), s.phase = .ready → s.fsm = .busy → s.wk.digits.toNat ≤ 9 →
    ∃ t, step { s with turns := .engine :: ts } = .next t ∧
    (∀ (k : Nat) (hk : k < 5), t.digest[k] = wordBE (hmacSha1 s.wk.key (be8 s.wk.counter)) k) ∧
    t.offset.toNat = (byteAt (hmacSha1 s.wk.key (be8 s.wk.counter)) 19).toNat % 16 ∧
    t.trunc = trunc31 (hmacSha1 s.wk.key (be8 s.wk.counter)) t.offset.toNat ∧
    t.codeValue.toNat = t.trunc.toNat % 10 ^ s.wk.digits.toNat ∧
    (∀ (m : Nat) (hm : m < 3), t.codeAscii[m] = wordBE (codeBuf t.codeValue.toNat s.wk.digits.toNat) m) ∧
    t.codeDigits = s.wk.digits ∧
    t = { s with turns := ts, digest := t.digest, offset := t.offset, trunc := t.trunc, codeValue := t.codeValue
                 codeAscii := t.codeAscii, codeDigits := t.codeDigits, wk := .zero, fsm := .idle, done := true }

/-- In IDLE an ENGINE turn takes no step. That such a turn is a step which leaves the block as it is, is the model's choice (log 1) (R92). -/
def Obligations.CompleteIsEnabledOnlyWhileBusy : Prop :=
  ∀ (s : State) (ts : List Turn), s.phase = .ready → s.fsm = .idle →
    step { s with turns := .engine :: ts } = .next { s with turns := ts }

/-- After every COMPLETE of a snapshot with a legal digit count the result registers are consistent. For a wk.key longer than 64 bytes,
which no accepted START takes, it holds by the model's choice (log 14) (R92, R125). -/
def Obligations.CompletedResultsAreConsistent : Prop :=
  ∀ (s : State) (ts : List Turn), s.phase = .ready → s.fsm = .busy →
    1 ≤ s.wk.digits.toNat → s.wk.digits.toNat ≤ 9 →
    ∃ t, step { s with turns := .engine :: ts } = .next t ∧ t.ResultConsistent ∧ t.codeDigits = s.wk.digits

/-- Two accepted STARTs with equal key bytes below LEN, LEN, counter and DIGITS give equal results at COMPLETE (R95). -/
def Obligations.EqualInputsGiveEqualResults : Prop :=
  ∀ (s t : State) (us vs : List Turn), s.phase = .ready → t.phase = .ready → s.StartReady → t.fsm = .idle →
    SameInputs s t → ∃ s₁ t₁ s₂ t₂, exec .cmdStart s = .next s₁ ∧ exec .cmdStart t = .next t₁ ∧
      step { s₁ with turns := .engine :: us } = .next s₂ ∧ step { t₁ with turns := .engine :: vs } = .next t₂ ∧
      SameResult s₂ t₂ ∧ s₂.done = true ∧ t₂.done = true

/-- While BUSY no instruction but CLEAR changes the snapshot or stops the computation (R36, R149, R150). -/
def Obligations.WritesWhileBusyDoNotReachTheComputation : Prop :=
  ∀ (i : Instr) (s : State) (ts : List Turn), s.phase = .ready → s.fsm = .busy → i ≠ .cmdClear →
    ∃ t, exec i s = .next t ∧ t.fsm = .busy ∧ t.wk = s.wk ∧ SameResult s t ∧
      ((∀ d e, i ≠ .wrStatus d e) → t.done = s.done) ∧
      (∀ d e, i = .wrStatus d e → t.done = if d then false else s.done) ∧
      ∃ u v, step { s with turns := .engine :: ts } = .next u ∧ step { t with turns := .engine :: ts } = .next v ∧
        SameResult u v

/-- No transaction but START in IDLE and CLEAR changes a result register, fsm or wk (R18, R28, R29, R30, R31, R32, R33, R86, R91). -/
def Obligations.OnlyStartAndClearChangeTheResultRegisters : Prop :=
  (∀ (i : Instr) (s : State), (i = .cmdStart → s.fsm = .busy) → i ≠ .cmdClear →
      ∃ t, exec i s = .next t ∧ SameResult s t ∧ t.fsm = s.fsm ∧ t.wk = s.wk) ∧
    (∀ (a : Access) (s : State), s.phase = .ready → a.wellFormed = true →
      (decode a.word = .instr .cmdStart → s.fsm = .busy) → decode a.word ≠ .instr .cmdClear →
      ∃ t, performAccess a s = .next t ∧ SameResult s t ∧ t.fsm = s.fsm ∧ t.wk = s.wk)

/-- Apart from the commands only WR_STATUS changes DONE, ERR or ERR_CODE, and it only clears them (R19, R20, R21, R38). -/
def Obligations.OnlyCommandsAndStatusWritesChangeStatus : Prop :=
  (∀ (i : Instr) (s : State), ∃ t, exec i s = .next t ∧
      (i ≠ .cmdStart → i ≠ .cmdClear → (∀ d e, i ≠ .wrStatus d e) →
        t.done = s.done ∧ t.err = s.err ∧ t.errCode = s.errCode ∧ t.fsm = s.fsm) ∧
      (t.done = true → s.done = true) ∧
      (i ≠ .cmdStart → (t.err = s.err ∧ t.errCode = s.errCode) ∨ (t.err = false ∧ t.errCode = 0))) ∧
    (∀ (a : Access) (s : State), s.phase = .ready → a.wellFormed = true →
      (a.write = true → a.offset ≠ 0x00#8 ∧ a.offset ≠ 0x04#8) →
      ∃ t, performAccess a s = .next t ∧ t.done = s.done ∧ t.err = s.err ∧ t.errCode = s.errCode ∧ t.fsm = s.fsm)

/-- No step returns a value that depends on the key buffer. Of a power-up turn it rests on the model's choice that the free values
depend on the number of the power-up alone (log 7); R140 and R145 leave the registers unspecified there (R27, R71, R136). -/
def Obligations.TheKeyBufferIsNotObservable : Prop :=
  ∀ (s s' t' : State) (k : Vector Byte 64), step s = .next s' → step { s with keybuf := k } = .next t' →
    t'.reads = s'.reads ∧ t'.statusWord = s'.statusWord ∧ t'.irq = s'.irq ∧ SameResult s' t' 

/-- The message schedule has 80 words that follow the SHA-1 recurrence. Of a list of other than 64 bytes it holds by the model's
choice (log 9, log 14) (R100, R101). -/
def Obligations.ScheduleFollowsTheRecurrence : Prop :=
  ∀ (b : List Byte), (schedule b).length = 80 ∧ (∀ t < 16, (schedule b).getD t 0 = wordBE b t) ∧
    (∀ t, 16 ≤ t → t ≤ 79 → (schedule b).getD t 0 = rotl32 ((schedule b).getD (t - 3) 0 ^^^
      (schedule b).getD (t - 8) 0 ^^^ (schedule b).getD (t - 14) 0 ^^^ (schedule b).getD (t - 16) 0) 1)

/-- SHA-1 padding appends 0x80, the smallest number of zero bytes that fits, and the bit length (R104). -/
def Obligations.PaddingIsTheSmallestThatFits : Prop :=
  ∀ m : List Byte, m.length < 2 ^ 61 → ∃ k : Nat, sha1Pad m = m ++ [0x80] ++ List.replicate k 0x00 ++ be8 (BitVec.ofNat 64 (8 * m.length)) ∧
    (BitVec.ofNat 64 (8 * m.length)).toNat = 8 * m.length ∧
    (m.length + 1 + k) % 64 = 56 ∧ (∀ j < k, (m.length + 1 + j) % 64 ≠ 56) ∧ (sha1Pad m).length % 64 = 0 ∧
    (m.length = 72 → k = 47 ∧ (sha1Pad m).length = 128) ∧ (m.length = 84 → k = 35 ∧ (sha1Pad m).length = 128)

/-- The four compressions of the engine compute SHA1((K0 ^ opad) || SHA1((K0 ^ ipad) || M)) (R105, R112, R113, R114, R115, R116). -/
def Obligations.HmacEqualsTheRfcFormula : Prop :=
  ∀ key msg : List Byte, key.length ≤ 64 → msg.length = 8 →
    innerHash key msg = sha1 (innerPadBlock key ++ msg) ∧
    hmacSha1 key msg = sha1 (outerPadBlock key ++ sha1 (innerPadBlock key ++ msg)) ∧ (hmacSha1 key msg).length = 20

/-- Keys that differ only by trailing zero bytes give the same digest. That a byte past the end of the key block is 0x00 (log 9), and
the digest of a message of other than 8 bytes (log 14), are the model's choices (R109, R116). -/
def Obligations.TrailingZeroKeyBytesDoNotMatter : Prop :=
  (∀ key : List Byte, key.length ≤ 64 → (keyBlock key).length = 64 ∧ (keyBlock key).take key.length = key ∧
      ∀ j, key.length ≤ j → byteAt (keyBlock key) j = 0x00) ∧
    ∀ (key msg : List Byte) (n : Nat), key.length + n ≤ 64 → hmacSha1 (key ++ List.replicate n 0x00) msg = hmacSha1 key msg

/-- TRUNC31 is the big-endian number of four digest bytes with its top bit cleared. Of a list too short for the offset it holds by
the model's choice that a byte past the end is 0x00 (log 9) (R117, R118, R119). -/
def Obligations.TruncationReadsFourBytesBigEndian : Prop :=
  ∀ (d : List Byte) (off : Nat),
    (trunc31 d off).toNat = (byteAt d off).toNat % 128 * 2 ^ 24 + (byteAt d (off + 1)).toNat * 2 ^ 16 +
      (byteAt d (off + 2)).toNat * 2 ^ 8 + (byteAt d (off + 3)).toNat ∧
    (truncOffset d).toNat = (byteAt d 19).toNat % 16 ∧ (truncOffset d).toNat + 3 ≤ 18

/-- The code buffer spells the code value in exactly d digits, zero-padded on the left, and is 0x00 after them (R121, R122, R123, R124, R126). -/
def Obligations.CodeBufferSpellsTheCode : Prop :=
  ∀ (bin : BitVec 31) (d : Nat), 1 ≤ d → d ≤ 9 →
    codeValueOf bin.toNat d < 10 ^ d ∧ codeValueOf bin.toNat d < 2 ^ 30 ∧
    Spells (codeBuf (codeValueOf bin.toNat d) d) (codeValueOf bin.toNat d) d

/-- The reset state meets the invariant (R39, R143). -/
def Obligations.TheResetStateIsLegal : Prop :=
  State.reset.Inv ∧ State.reset.Legal

/-- Every step of every agent keeps the block legal (R18, R19, R21, R33, R36, R125, R128, R142, R148). -/
def Obligations.EveryStepKeepsTheInvariant : Prop :=
  ∀ s t : State, s.Inv → step s = .next t → t.Inv

/-- A WAIT loop ends, and the STATUS it last reads shows DONE = 1 and BUSY = 0. Once `turns` is used up it ends by the default turn,
the model's choice for the fairness of R94 (log 1). It is a claim about one master, with the premise that no other master accesses
the block between two reads of the loop (I16, D24), which the model's form of the loop contains (log 12) (R62, R94, R156). -/
def Obligations.WaitEndsWithDone : Prop :=
  ∀ (s : State) (rest : List HostOp), s.phase = .ready → s.fsm = .busy → s.host = .poll 0x04#8 0x1 0 :: rest →
    (∀ t ∈ s.turns, t = .host ∨ t = .engine) →
    ∃ n t, n ≤ s.turns.length + 2 ∧ runFor n s = .next t ∧ t.host = rest ∧ t.fsm = .idle ∧
      (t.reads.getLastD 0).getLsbD 0 = false ∧ (t.reads.getLastD 0).getLsbD 1 = true ∧ SameResult (complete s) t

/-- The expansion of LOADKEY puts the key into KEYBUF and its length into KEY_LEN, in IDLE and BUSY. The clause for an empty
`turns` rests on the default turn, the model's choice (log 1), on no rule (R62, R85, R149). -/
def Obligations.LoadKeyLoadsTheKey : Prop :=
  ∀ (s : State) (key : List Byte) (rest : List HostOp), s.phase = .ready → key.length ≤ 64 →
    s.host = expandLine (.loadKey key) ++ rest →
    ∃ k : Vector Byte 64,
      (∀ ts, s.turns = List.replicate ((key.length + 3) / 4 + 1) .host ++ ts →
        runFor ((key.length + 3) / 4 + 1) s =
          .next { s with host := rest, turns := ts, keybuf := k, keyLen := BitVec.ofNat 8 key.length }) ∧
      (s.turns = [] → s.fsm = .idle → runFor ((key.length + 3) / 4 + 1) s =
          .next { s with host := rest, keybuf := k, keyLen := BitVec.ofNat 8 key.length }) ∧
      ∀ (j : Nat) (hj : j < 64), k[j] =
        if j < (key.length + 3) / 4 * 4 then byteAt key j else s.keybuf[j]

/-- One HOST turn of POLL reads the register once and stays pending unless (result & mask) = val, in IDLE and BUSY. The clause for
an empty `turns` rests on the default turn, the model's choice (log 1), on no rule (R62). -/
def Obligations.APollRepeatsItsReadUntilTheValueAppears : Prop :=
  ∀ (s : State) (off : BitVec 8) (mask val : Word) (rest : List HostOp), s.phase = .ready →
    s.host = .poll off mask val :: rest → off.toNat % 4 = 0 →
    ∃ v, Returns (performAccess (readAt off) s) s v ∧
      (∀ ts, s.turns = .host :: ts → step s = .next { s with
        reads := s.reads ++ [v]
        turns := ts
        host := if v &&& mask = val then rest else s.host }) ∧
      (s.turns = [] → s.fsm = .idle → step s = .next { s with
        reads := s.reads ++ [v]
        host := if v &&& mask = val then rest else s.host })

/-- START and COMPLETE give the HOTP code of the key, counter and digit count (R4, R89, R92, R93, R116, R118, R121, R126). -/
def Obligations.StartThenCompleteGivesTheHotpCode : Prop :=
  ∀ (s : State) (rest : List HostOp) (ts : List Turn), s.phase = .ready → s.StartReady →
    s.host = expandLine .cmdStart ++ rest → s.turns = .host :: .engine :: ts →
    ∃ (t : State) (d : List Byte), runFor 2 s = .next t ∧ t.fsm = .idle ∧ t.done = true ∧ t.err = false ∧
      t.host = rest ∧ t.turns = ts ∧
      d = sha1 (outerPadBlock (s.keybuf.toList.take s.keyLen.toNat) ++
        sha1 (innerPadBlock (s.keybuf.toList.take s.keyLen.toNat) ++ be8 (s.counterHi ++ s.counterLo))) ∧
      t.digestBytes = d ∧ t.codeValue.toNat =
        ((byteAt d ((byteAt d 19).toNat % 16)).toNat % 128 * 2 ^ 24 +
          (byteAt d ((byteAt d 19).toNat % 16 + 1)).toNat * 2 ^ 16 +
          (byteAt d ((byteAt d 19).toNat % 16 + 2)).toNat * 2 ^ 8 +
          (byteAt d ((byteAt d 19).toNat % 16 + 3)).toNat) % 10 ^ s.digits.toNat ∧
      Spells t.codeBytes t.codeValue.toNat s.digits.toNat
end

