-- ==== Sys2Proof/Laws/Decode.lean ====
section
/-! SUPPORT. The fields of a transaction word built from its fields. -/

namespace Sys2Proof.Laws

@[simp] theorem txnW_txnWord (w : Bool) (off : BitVec 8) (data : Word) : txnW (txnWord w off data) = w := by
  unfold txnW txnWord
  rw [BitVec.getLsbD_append, BitVec.getLsbD_append]
  simp

@[simp] theorem txnOff_txnWord (w : Bool) (off : BitVec 8) (data : Word) : txnOff (txnWord w off data) = off := by
  unfold txnOff txnWord
  apply BitVec.eq_of_getLsbD_eq
  intro i hi
  rw [BitVec.getLsbD_extractLsb', BitVec.getLsbD_append, BitVec.getLsbD_append]
  have h1 : ¬ (32 + i < 32) := by omega
  have h3 : 32 + i - 32 = i := by omega
  simp [h1, h3, hi]

@[simp] theorem txnData_txnWord (w : Bool) (off : BitVec 8) (data : Word) : txnData (txnWord w off data) = data := by
  unfold txnData txnWord
  apply BitVec.eq_of_getLsbD_eq
  intro i hi
  rw [BitVec.getLsbD_extractLsb', BitVec.getLsbD_append]
  simp [hi]

/-- A 32-bit access is described by its word (R54). -/
@[simp] theorem accessOfWord_word (a : Access) (h : a.size = 4) : accessOfWord a.word = a := by
  cases a; simp_all [accessOfWord, Access.word]

/-- A word is the concatenation of its fields (R54). -/
theorem txnWord_fields (t : TxnWord) : txnWord (txnW t) (txnOff t) (txnData t) = t := by
  unfold txnW txnOff txnData txnWord
  apply BitVec.eq_of_getLsbD_eq
  intro i hi
  rw [BitVec.getLsbD_append, BitVec.getLsbD_append, BitVec.getLsbD_extractLsb', BitVec.getLsbD_extractLsb']
  by_cases h1 : i < 32
  · simp [h1]
  · by_cases h2 : i - 32 < 8
    · have : 32 + (i - 32) = i := by omega
      simp [h1, h2, this]
    · have : i = 40 := by omega
      subst this
      simp

end Sys2Proof.Laws
end

