-- ==== Sys2Proof/Laws/State.lean ====
section
/-! SUPPORT. What each shared operation does to each field of State: one lemma for each field of each update, true by rfl, so that
no proof unfolds a record update. -/

namespace Sys2Proof.Laws

open Sys2Proof.Machine

section Respond

variable (v : Word) (s : State)

@[simp] theorem respond_done : (respond v s).done = s.done := rfl
@[simp] theorem respond_err : (respond v s).err = s.err := rfl
@[simp] theorem respond_errCode : (respond v s).errCode = s.errCode := rfl
@[simp] theorem respond_doneIe : (respond v s).doneIe = s.doneIe := rfl
@[simp] theorem respond_errIe : (respond v s).errIe = s.errIe := rfl
@[simp] theorem respond_digits : (respond v s).digits = s.digits := rfl
@[simp] theorem respond_keyLen : (respond v s).keyLen = s.keyLen := rfl
@[simp] theorem respond_counterHi : (respond v s).counterHi = s.counterHi := rfl
@[simp] theorem respond_counterLo : (respond v s).counterLo = s.counterLo := rfl
@[simp] theorem respond_keybuf : (respond v s).keybuf = s.keybuf := rfl
@[simp] theorem respond_digest : (respond v s).digest = s.digest := rfl
@[simp] theorem respond_offset : (respond v s).offset = s.offset := rfl
@[simp] theorem respond_trunc : (respond v s).trunc = s.trunc := rfl
@[simp] theorem respond_codeValue : (respond v s).codeValue = s.codeValue := rfl
@[simp] theorem respond_codeAscii : (respond v s).codeAscii = s.codeAscii := rfl
@[simp] theorem respond_codeDigits : (respond v s).codeDigits = s.codeDigits := rfl
@[simp] theorem respond_fsm : (respond v s).fsm = s.fsm := rfl
@[simp] theorem respond_wk : (respond v s).wk = s.wk := rfl
@[simp] theorem respond_phase : (respond v s).phase = s.phase := rfl
@[simp] theorem respond_host : (respond v s).host = s.host := rfl
@[simp] theorem respond_turns : (respond v s).turns = s.turns := rfl
@[simp] theorem respond_reads : (respond v s).reads = s.reads ++ [v] := rfl
@[simp] theorem respond_powerUps : (respond v s).powerUps = s.powerUps := rfl

end Respond

section SetError

variable (c : ErrorCode) (s : State)

@[simp] theorem setError_done : (setError c s).done = s.done := rfl
@[simp] theorem setError_err : (setError c s).err = true := rfl
@[simp] theorem setError_errCode : (setError c s).errCode = c.bits := rfl
@[simp] theorem setError_doneIe : (setError c s).doneIe = s.doneIe := rfl
@[simp] theorem setError_errIe : (setError c s).errIe = s.errIe := rfl
@[simp] theorem setError_digits : (setError c s).digits = s.digits := rfl
@[simp] theorem setError_keyLen : (setError c s).keyLen = s.keyLen := rfl
@[simp] theorem setError_counterHi : (setError c s).counterHi = s.counterHi := rfl
@[simp] theorem setError_counterLo : (setError c s).counterLo = s.counterLo := rfl
@[simp] theorem setError_keybuf : (setError c s).keybuf = s.keybuf := rfl
@[simp] theorem setError_digest : (setError c s).digest = s.digest := rfl
@[simp] theorem setError_offset : (setError c s).offset = s.offset := rfl
@[simp] theorem setError_trunc : (setError c s).trunc = s.trunc := rfl
@[simp] theorem setError_codeValue : (setError c s).codeValue = s.codeValue := rfl
@[simp] theorem setError_codeAscii : (setError c s).codeAscii = s.codeAscii := rfl
@[simp] theorem setError_codeDigits : (setError c s).codeDigits = s.codeDigits := rfl
@[simp] theorem setError_fsm : (setError c s).fsm = s.fsm := rfl
@[simp] theorem setError_wk : (setError c s).wk = s.wk := rfl
@[simp] theorem setError_phase : (setError c s).phase = s.phase := rfl
@[simp] theorem setError_host : (setError c s).host = s.host := rfl
@[simp] theorem setError_turns : (setError c s).turns = s.turns := rfl
@[simp] theorem setError_reads : (setError c s).reads = s.reads := rfl
@[simp] theorem setError_powerUps : (setError c s).powerUps = s.powerUps := rfl

end SetError

section ClearError

variable (s : State)

@[simp] theorem clearError_done : (clearError s).done = s.done := rfl
@[simp] theorem clearError_err : (clearError s).err = false := rfl
@[simp] theorem clearError_errCode : (clearError s).errCode = 0 := rfl
@[simp] theorem clearError_doneIe : (clearError s).doneIe = s.doneIe := rfl
@[simp] theorem clearError_errIe : (clearError s).errIe = s.errIe := rfl
@[simp] theorem clearError_digits : (clearError s).digits = s.digits := rfl
@[simp] theorem clearError_keyLen : (clearError s).keyLen = s.keyLen := rfl
@[simp] theorem clearError_counterHi : (clearError s).counterHi = s.counterHi := rfl
@[simp] theorem clearError_counterLo : (clearError s).counterLo = s.counterLo := rfl
@[simp] theorem clearError_keybuf : (clearError s).keybuf = s.keybuf := rfl
@[simp] theorem clearError_digest : (clearError s).digest = s.digest := rfl
@[simp] theorem clearError_offset : (clearError s).offset = s.offset := rfl
@[simp] theorem clearError_trunc : (clearError s).trunc = s.trunc := rfl
@[simp] theorem clearError_codeValue : (clearError s).codeValue = s.codeValue := rfl
@[simp] theorem clearError_codeAscii : (clearError s).codeAscii = s.codeAscii := rfl
@[simp] theorem clearError_codeDigits : (clearError s).codeDigits = s.codeDigits := rfl
@[simp] theorem clearError_fsm : (clearError s).fsm = s.fsm := rfl
@[simp] theorem clearError_wk : (clearError s).wk = s.wk := rfl
@[simp] theorem clearError_phase : (clearError s).phase = s.phase := rfl
@[simp] theorem clearError_host : (clearError s).host = s.host := rfl
@[simp] theorem clearError_turns : (clearError s).turns = s.turns := rfl
@[simp] theorem clearError_reads : (clearError s).reads = s.reads := rfl
@[simp] theorem clearError_powerUps : (clearError s).powerUps = s.powerUps := rfl

end ClearError

section ClearDone

variable (s : State)

@[simp] theorem clearDone_done : (clearDone s).done = false := rfl
@[simp] theorem clearDone_err : (clearDone s).err = s.err := rfl
@[simp] theorem clearDone_errCode : (clearDone s).errCode = s.errCode := rfl
@[simp] theorem clearDone_doneIe : (clearDone s).doneIe = s.doneIe := rfl
@[simp] theorem clearDone_errIe : (clearDone s).errIe = s.errIe := rfl
@[simp] theorem clearDone_digits : (clearDone s).digits = s.digits := rfl
@[simp] theorem clearDone_keyLen : (clearDone s).keyLen = s.keyLen := rfl
@[simp] theorem clearDone_counterHi : (clearDone s).counterHi = s.counterHi := rfl
@[simp] theorem clearDone_counterLo : (clearDone s).counterLo = s.counterLo := rfl
@[simp] theorem clearDone_keybuf : (clearDone s).keybuf = s.keybuf := rfl
@[simp] theorem clearDone_digest : (clearDone s).digest = s.digest := rfl
@[simp] theorem clearDone_offset : (clearDone s).offset = s.offset := rfl
@[simp] theorem clearDone_trunc : (clearDone s).trunc = s.trunc := rfl
@[simp] theorem clearDone_codeValue : (clearDone s).codeValue = s.codeValue := rfl
@[simp] theorem clearDone_codeAscii : (clearDone s).codeAscii = s.codeAscii := rfl
@[simp] theorem clearDone_codeDigits : (clearDone s).codeDigits = s.codeDigits := rfl
@[simp] theorem clearDone_fsm : (clearDone s).fsm = s.fsm := rfl
@[simp] theorem clearDone_wk : (clearDone s).wk = s.wk := rfl
@[simp] theorem clearDone_phase : (clearDone s).phase = s.phase := rfl
@[simp] theorem clearDone_host : (clearDone s).host = s.host := rfl
@[simp] theorem clearDone_turns : (clearDone s).turns = s.turns := rfl
@[simp] theorem clearDone_reads : (clearDone s).reads = s.reads := rfl
@[simp] theorem clearDone_powerUps : (clearDone s).powerUps = s.powerUps := rfl

end ClearDone

section ClearResults

variable (s : State)

@[simp] theorem clearResults_done : (clearResults s).done = s.done := rfl
@[simp] theorem clearResults_err : (clearResults s).err = s.err := rfl
@[simp] theorem clearResults_errCode : (clearResults s).errCode = s.errCode := rfl
@[simp] theorem clearResults_doneIe : (clearResults s).doneIe = s.doneIe := rfl
@[simp] theorem clearResults_errIe : (clearResults s).errIe = s.errIe := rfl
@[simp] theorem clearResults_digits : (clearResults s).digits = s.digits := rfl
@[simp] theorem clearResults_keyLen : (clearResults s).keyLen = s.keyLen := rfl
@[simp] theorem clearResults_counterHi : (clearResults s).counterHi = s.counterHi := rfl
@[simp] theorem clearResults_counterLo : (clearResults s).counterLo = s.counterLo := rfl
@[simp] theorem clearResults_keybuf : (clearResults s).keybuf = s.keybuf := rfl
@[simp] theorem clearResults_digest : (clearResults s).digest = Vector.replicate 5 0 := rfl
@[simp] theorem clearResults_offset : (clearResults s).offset = 0 := rfl
@[simp] theorem clearResults_trunc : (clearResults s).trunc = 0 := rfl
@[simp] theorem clearResults_codeValue : (clearResults s).codeValue = 0 := rfl
@[simp] theorem clearResults_codeAscii : (clearResults s).codeAscii = Vector.replicate 3 0 := rfl
@[simp] theorem clearResults_codeDigits : (clearResults s).codeDigits = 0 := rfl
@[simp] theorem clearResults_fsm : (clearResults s).fsm = s.fsm := rfl
@[simp] theorem clearResults_wk : (clearResults s).wk = s.wk := rfl
@[simp] theorem clearResults_phase : (clearResults s).phase = s.phase := rfl
@[simp] theorem clearResults_host : (clearResults s).host = s.host := rfl
@[simp] theorem clearResults_turns : (clearResults s).turns = s.turns := rfl
@[simp] theorem clearResults_reads : (clearResults s).reads = s.reads := rfl
@[simp] theorem clearResults_powerUps : (clearResults s).powerUps = s.powerUps := rfl

end ClearResults

section StartClear

variable (s : State)

@[simp] theorem startClear_done : (startClear s).done = false := rfl
@[simp] theorem startClear_err : (startClear s).err = false := rfl
@[simp] theorem startClear_errCode : (startClear s).errCode = 0 := rfl
@[simp] theorem startClear_doneIe : (startClear s).doneIe = s.doneIe := rfl
@[simp] theorem startClear_errIe : (startClear s).errIe = s.errIe := rfl
@[simp] theorem startClear_digits : (startClear s).digits = s.digits := rfl
@[simp] theorem startClear_keyLen : (startClear s).keyLen = s.keyLen := rfl
@[simp] theorem startClear_counterHi : (startClear s).counterHi = s.counterHi := rfl
@[simp] theorem startClear_counterLo : (startClear s).counterLo = s.counterLo := rfl
@[simp] theorem startClear_keybuf : (startClear s).keybuf = s.keybuf := rfl
@[simp] theorem startClear_digest : (startClear s).digest = Vector.replicate 5 0 := rfl
@[simp] theorem startClear_offset : (startClear s).offset = 0 := rfl
@[simp] theorem startClear_trunc : (startClear s).trunc = 0 := rfl
@[simp] theorem startClear_codeValue : (startClear s).codeValue = 0 := rfl
@[simp] theorem startClear_codeAscii : (startClear s).codeAscii = Vector.replicate 3 0 := rfl
@[simp] theorem startClear_codeDigits : (startClear s).codeDigits = 0 := rfl
@[simp] theorem startClear_fsm : (startClear s).fsm = s.fsm := rfl
@[simp] theorem startClear_wk : (startClear s).wk = s.wk := rfl
@[simp] theorem startClear_phase : (startClear s).phase = s.phase := rfl
@[simp] theorem startClear_host : (startClear s).host = s.host := rfl
@[simp] theorem startClear_turns : (startClear s).turns = s.turns := rfl
@[simp] theorem startClear_reads : (startClear s).reads = s.reads := rfl
@[simp] theorem startClear_powerUps : (startClear s).powerUps = s.powerUps := rfl

end StartClear

section WriteKeyWord

variable (n : Fin 16) (b0 b1 b2 b3 : Byte) (s : State)

@[simp] theorem writeKeyWord_done : (writeKeyWord n b0 b1 b2 b3 s).done = s.done := rfl
@[simp] theorem writeKeyWord_err : (writeKeyWord n b0 b1 b2 b3 s).err = s.err := rfl
@[simp] theorem writeKeyWord_errCode : (writeKeyWord n b0 b1 b2 b3 s).errCode = s.errCode := rfl
@[simp] theorem writeKeyWord_doneIe : (writeKeyWord n b0 b1 b2 b3 s).doneIe = s.doneIe := rfl
@[simp] theorem writeKeyWord_errIe : (writeKeyWord n b0 b1 b2 b3 s).errIe = s.errIe := rfl
@[simp] theorem writeKeyWord_digits : (writeKeyWord n b0 b1 b2 b3 s).digits = s.digits := rfl
@[simp] theorem writeKeyWord_keyLen : (writeKeyWord n b0 b1 b2 b3 s).keyLen = s.keyLen := rfl
@[simp] theorem writeKeyWord_counterHi : (writeKeyWord n b0 b1 b2 b3 s).counterHi = s.counterHi := rfl
@[simp] theorem writeKeyWord_counterLo : (writeKeyWord n b0 b1 b2 b3 s).counterLo = s.counterLo := rfl
@[simp] theorem writeKeyWord_digest : (writeKeyWord n b0 b1 b2 b3 s).digest = s.digest := rfl
@[simp] theorem writeKeyWord_offset : (writeKeyWord n b0 b1 b2 b3 s).offset = s.offset := rfl
@[simp] theorem writeKeyWord_trunc : (writeKeyWord n b0 b1 b2 b3 s).trunc = s.trunc := rfl
@[simp] theorem writeKeyWord_codeValue : (writeKeyWord n b0 b1 b2 b3 s).codeValue = s.codeValue := rfl
@[simp] theorem writeKeyWord_codeAscii : (writeKeyWord n b0 b1 b2 b3 s).codeAscii = s.codeAscii := rfl
@[simp] theorem writeKeyWord_codeDigits : (writeKeyWord n b0 b1 b2 b3 s).codeDigits = s.codeDigits := rfl
@[simp] theorem writeKeyWord_fsm : (writeKeyWord n b0 b1 b2 b3 s).fsm = s.fsm := rfl
@[simp] theorem writeKeyWord_wk : (writeKeyWord n b0 b1 b2 b3 s).wk = s.wk := rfl
@[simp] theorem writeKeyWord_phase : (writeKeyWord n b0 b1 b2 b3 s).phase = s.phase := rfl
@[simp] theorem writeKeyWord_host : (writeKeyWord n b0 b1 b2 b3 s).host = s.host := rfl
@[simp] theorem writeKeyWord_turns : (writeKeyWord n b0 b1 b2 b3 s).turns = s.turns := rfl
@[simp] theorem writeKeyWord_reads : (writeKeyWord n b0 b1 b2 b3 s).reads = s.reads := rfl
@[simp] theorem writeKeyWord_powerUps : (writeKeyWord n b0 b1 b2 b3 s).powerUps = s.powerUps := rfl

end WriteKeyWord

section ApplyReset

variable (s : State)

@[simp] theorem applyReset_done : (applyReset s).done = false := rfl
@[simp] theorem applyReset_err : (applyReset s).err = false := rfl
@[simp] theorem applyReset_errCode : (applyReset s).errCode = 0 := rfl
@[simp] theorem applyReset_doneIe : (applyReset s).doneIe = false := rfl
@[simp] theorem applyReset_errIe : (applyReset s).errIe = false := rfl
@[simp] theorem applyReset_digits : (applyReset s).digits = 6 := rfl
@[simp] theorem applyReset_keyLen : (applyReset s).keyLen = 10 := rfl
@[simp] theorem applyReset_counterHi : (applyReset s).counterHi = 0 := rfl
@[simp] theorem applyReset_counterLo : (applyReset s).counterLo = 0 := rfl
@[simp] theorem applyReset_keybuf : (applyReset s).keybuf = Vector.replicate 64 0 := rfl
@[simp] theorem applyReset_digest : (applyReset s).digest = Vector.replicate 5 0 := rfl
@[simp] theorem applyReset_offset : (applyReset s).offset = 0 := rfl
@[simp] theorem applyReset_trunc : (applyReset s).trunc = 0 := rfl
@[simp] theorem applyReset_codeValue : (applyReset s).codeValue = 0 := rfl
@[simp] theorem applyReset_codeAscii : (applyReset s).codeAscii = Vector.replicate 3 0 := rfl
@[simp] theorem applyReset_codeDigits : (applyReset s).codeDigits = 0 := rfl
@[simp] theorem applyReset_fsm : (applyReset s).fsm = .idle := rfl
@[simp] theorem applyReset_wk : (applyReset s).wk = .zero := rfl
@[simp] theorem applyReset_phase : (applyReset s).phase = s.phase := rfl
@[simp] theorem applyReset_host : (applyReset s).host = s.host := rfl
@[simp] theorem applyReset_turns : (applyReset s).turns = s.turns := rfl
@[simp] theorem applyReset_reads : (applyReset s).reads = s.reads := rfl
@[simp] theorem applyReset_powerUps : (applyReset s).powerUps = s.powerUps := rfl

end ApplyReset

section AssertReset

variable (s : State)

@[simp] theorem assertReset_done : (assertReset s).done = false := rfl
@[simp] theorem assertReset_err : (assertReset s).err = false := rfl
@[simp] theorem assertReset_errCode : (assertReset s).errCode = 0 := rfl
@[simp] theorem assertReset_doneIe : (assertReset s).doneIe = false := rfl
@[simp] theorem assertReset_errIe : (assertReset s).errIe = false := rfl
@[simp] theorem assertReset_digits : (assertReset s).digits = 6 := rfl
@[simp] theorem assertReset_keyLen : (assertReset s).keyLen = 10 := rfl
@[simp] theorem assertReset_counterHi : (assertReset s).counterHi = 0 := rfl
@[simp] theorem assertReset_counterLo : (assertReset s).counterLo = 0 := rfl
@[simp] theorem assertReset_keybuf : (assertReset s).keybuf = Vector.replicate 64 0 := rfl
@[simp] theorem assertReset_digest : (assertReset s).digest = Vector.replicate 5 0 := rfl
@[simp] theorem assertReset_offset : (assertReset s).offset = 0 := rfl
@[simp] theorem assertReset_trunc : (assertReset s).trunc = 0 := rfl
@[simp] theorem assertReset_codeValue : (assertReset s).codeValue = 0 := rfl
@[simp] theorem assertReset_codeAscii : (assertReset s).codeAscii = Vector.replicate 3 0 := rfl
@[simp] theorem assertReset_codeDigits : (assertReset s).codeDigits = 0 := rfl
@[simp] theorem assertReset_fsm : (assertReset s).fsm = .idle := rfl
@[simp] theorem assertReset_wk : (assertReset s).wk = .zero := rfl
@[simp] theorem assertReset_phase : (assertReset s).phase = .inReset := rfl
@[simp] theorem assertReset_host : (assertReset s).host = s.host := rfl
@[simp] theorem assertReset_turns : (assertReset s).turns = s.turns := rfl
@[simp] theorem assertReset_reads : (assertReset s).reads = s.reads := rfl
@[simp] theorem assertReset_powerUps : (assertReset s).powerUps = s.powerUps := rfl

end AssertReset

section WriteResults

variable (r : OtpResult) (d : BitVec 4) (s : State)

@[simp] theorem writeResults_done : (writeResults r d s).done = s.done := rfl
@[simp] theorem writeResults_err : (writeResults r d s).err = s.err := rfl
@[simp] theorem writeResults_errCode : (writeResults r d s).errCode = s.errCode := rfl
@[simp] theorem writeResults_doneIe : (writeResults r d s).doneIe = s.doneIe := rfl
@[simp] theorem writeResults_errIe : (writeResults r d s).errIe = s.errIe := rfl
@[simp] theorem writeResults_digits : (writeResults r d s).digits = s.digits := rfl
@[simp] theorem writeResults_keyLen : (writeResults r d s).keyLen = s.keyLen := rfl
@[simp] theorem writeResults_counterHi : (writeResults r d s).counterHi = s.counterHi := rfl
@[simp] theorem writeResults_counterLo : (writeResults r d s).counterLo = s.counterLo := rfl
@[simp] theorem writeResults_keybuf : (writeResults r d s).keybuf = s.keybuf := rfl
@[simp] theorem writeResults_digest : (writeResults r d s).digest = digestWords r := rfl
@[simp] theorem writeResults_offset : (writeResults r d s).offset = r.off := rfl
@[simp] theorem writeResults_trunc : (writeResults r d s).trunc = r.bin := rfl
@[simp] theorem writeResults_codeValue : (writeResults r d s).codeValue = BitVec.ofNat 30 r.val := rfl
@[simp] theorem writeResults_codeAscii : (writeResults r d s).codeAscii = codeWords r := rfl
@[simp] theorem writeResults_codeDigits : (writeResults r d s).codeDigits = d := rfl
@[simp] theorem writeResults_fsm : (writeResults r d s).fsm = s.fsm := rfl
@[simp] theorem writeResults_wk : (writeResults r d s).wk = s.wk := rfl
@[simp] theorem writeResults_phase : (writeResults r d s).phase = s.phase := rfl
@[simp] theorem writeResults_host : (writeResults r d s).host = s.host := rfl
@[simp] theorem writeResults_turns : (writeResults r d s).turns = s.turns := rfl
@[simp] theorem writeResults_reads : (writeResults r d s).reads = s.reads := rfl
@[simp] theorem writeResults_powerUps : (writeResults r d s).powerUps = s.powerUps := rfl

end WriteResults

section Complete

variable (s : State)

@[simp] theorem complete_done : (complete s).done = true := rfl
@[simp] theorem complete_err : (complete s).err = s.err := rfl
@[simp] theorem complete_errCode : (complete s).errCode = s.errCode := rfl
@[simp] theorem complete_doneIe : (complete s).doneIe = s.doneIe := rfl
@[simp] theorem complete_errIe : (complete s).errIe = s.errIe := rfl
@[simp] theorem complete_digits : (complete s).digits = s.digits := rfl
@[simp] theorem complete_keyLen : (complete s).keyLen = s.keyLen := rfl
@[simp] theorem complete_counterHi : (complete s).counterHi = s.counterHi := rfl
@[simp] theorem complete_counterLo : (complete s).counterLo = s.counterLo := rfl
@[simp] theorem complete_keybuf : (complete s).keybuf = s.keybuf := rfl
@[simp] theorem complete_digest : (complete s).digest = digestWords s.wk.result := rfl
@[simp] theorem complete_offset : (complete s).offset = s.wk.result.off := rfl
@[simp] theorem complete_trunc : (complete s).trunc = s.wk.result.bin := rfl
@[simp] theorem complete_codeValue : (complete s).codeValue = BitVec.ofNat 30 s.wk.result.val := rfl
@[simp] theorem complete_codeAscii : (complete s).codeAscii = codeWords s.wk.result := rfl
@[simp] theorem complete_codeDigits : (complete s).codeDigits = s.wk.digits := rfl
@[simp] theorem complete_fsm : (complete s).fsm = .idle := rfl
@[simp] theorem complete_wk : (complete s).wk = .zero := rfl
@[simp] theorem complete_phase : (complete s).phase = s.phase := rfl
@[simp] theorem complete_host : (complete s).host = s.host := rfl
@[simp] theorem complete_turns : (complete s).turns = s.turns := rfl
@[simp] theorem complete_reads : (complete s).reads = s.reads := rfl
@[simp] theorem complete_powerUps : (complete s).powerUps = s.powerUps := rfl

end Complete

section PowerUp

variable (s : State)

@[simp] theorem powerUp_phase : (powerUp s).phase = .unreset := rfl
@[simp] theorem powerUp_host : (powerUp s).host = s.host := rfl
@[simp] theorem powerUp_turns : (powerUp s).turns = s.turns := rfl
@[simp] theorem powerUp_reads : (powerUp s).reads = s.reads := rfl
@[simp] theorem powerUp_powerUps : (powerUp s).powerUps = s.powerUps + 1 := rfl

end PowerUp

end Sys2Proof.Laws
end

