-- ==== Sys2Proof/Laws/Ops.lean ====
section
/-! SUPPORT. One lemma for each shared operation that says everything it can do; proofs cite these instead of unfolding. -/

namespace Sys2Proof.Laws

open Sys2Proof.Machine

/-! ## Byte arrays -/

@[simp] theorem length_be4 (w : Word) : (be4 w).length = 4 := by simp [be4]

@[simp] theorem length_be8 (c : Counter) : (be8 c).length = 8 := by simp [be8]

@[simp] theorem length_zeros (n : Nat) : (zeros n).length = n := by simp [zeros]

@[simp] theorem length_serialise (h : Chain) : (serialise h).length = 20 := by simp [serialise]

theorem be4_eq (w : Word) : be4 w = [wordByte w 0, wordByte w 1, wordByte w 2, wordByte w 3] := rfl

/-- Packing the bytes of a word gives the word back (R43). -/
@[simp] theorem packed_wordByte (w : Word) : wordByte w 0 ++ wordByte w 1 ++ wordByte w 2 ++ wordByte w 3 = w := by
  simp only [wordByte]
  apply BitVec.eq_of_getLsbD_eq
  intro i hi
  simp only [BitVec.getLsbD_append, BitVec.getLsbD_extractLsb']
  by_cases h0 : i < 8
  · simp [h0]
  · by_cases h1 : i - 8 < 8
    · simp [h0, h1]; congr 1; omega
    · by_cases h2 : i - 8 - 8 < 8
      · simp [h0, h1, h2]; congr 1; omega
      · have h3 : i - 8 - 8 - 8 < 8 := by omega
        simp [h0, h1, h2, h3]; congr 1; omega

/-- The bytes of four packed bytes are those bytes (R43). -/
theorem be4_append (a b c d : Byte) : be4 (a ++ b ++ c ++ d) = [a, b, c, d] := by
  have hb : ∀ i < 4, wordByte (a ++ b ++ c ++ d) i = [a, b, c, d].getD i 0 := by
    intro i hi
    simp only [wordByte]
    apply BitVec.eq_of_getLsbD_eq
    intro j hj
    simp only [BitVec.getLsbD_extractLsb', BitVec.getLsbD_append]
    match i, hi with
    | 0, _ =>
      have : ¬ 24 + j < 8 := by omega
      have h2 : ¬ 24 + j - 8 < 8 := by omega
      have h3 : ¬ 24 + j - 8 - 8 < 8 := by omega
      have h4 : 24 + j - 8 - 8 - 8 = j := by omega
      simp [this, h2, h3, h4, hj]
    | 1, _ =>
      have : ¬ 16 + j < 8 := by omega
      have h2 : ¬ 16 + j - 8 < 8 := by omega
      have h3 : 16 + j - 8 - 8 = j := by omega
      simp [this, h2, h3, hj]
    | 2, _ =>
      have : ¬ 8 + j < 8 := by omega
      have h2 : 8 + j - 8 = j := by omega
      simp [this, h2, hj]
    | 3, _ => simp [hj]
  rw [be4_eq, hb 0 (by omega), hb 1 (by omega), hb 2 (by omega), hb 3 (by omega)]
  rfl

/-! ## The key buffer -/

/-- A write of KEY_Wn read back: its four bytes, and every other byte as before (R27, R85). -/
theorem getElem_writeKeyWord (n : Fin 16) (b0 b1 b2 b3 : Byte) (s : State) (j : Nat) (hj : j < 64) :
    (writeKeyWord n b0 b1 b2 b3 s).keybuf[j] =
      if j = 4 * n.val then b0 else if j = 4 * n.val + 1 then b1 else if j = 4 * n.val + 2 then b2
      else if j = 4 * n.val + 3 then b3 else s.keybuf[j] := by
  simp only [writeKeyWord, Vector.getElem_set]
  split_ifs <;> first | rfl | omega

/-- A write of KEY_Wn, as the statements put it. -/
theorem writesKeyWord_next (n : Fin 16) (b0 b1 b2 b3 : Byte) (s : State) :
    WritesKeyWord (.next (writeKeyWord n b0 b1 b2 b3 s)) s n.val b0 b1 b2 b3 :=
  ⟨_, rfl, fun j hj => getElem_writeKeyWord n b0 b1 b2 b3 s j hj⟩

/-! ## START -/

/-- Everything START can do (R89): refused while BUSY, refused by a check, or accepted. -/
theorem start_cases (s : State) :
    (s.fsm = .busy ∧ start s = setError .busy s) ∨
    (s.fsm = .idle ∧ ∃ c, startError? s = some c ∧ start s = setError c (startClear s)) ∨
    (s.fsm = .idle ∧ startError? s = none ∧ start s = { startClear s with wk := s.snapshot, fsm := .busy }) := by
  unfold start
  cases hf : s.fsm with
  | busy => simp
  | idle => cases he : startError? s <;> simp

/-- START's checks report only ERR_KEYLEN and ERR_DIGITS (R129). -/
theorem startError?_some {s : State} {c : ErrorCode} (h : startError? s = some c) :
    (c = .keyLen ∧ s.keyLen.toNat > 64) ∨
    (c = .digits ∧ s.keyLen.toNat ≤ 64 ∧ (s.digits.toNat = 0 ∨ s.digits.toNat > 9)) := by
  unfold startError? at h
  split_ifs at h with h1 h2
  · exact .inl ⟨by simpa using h.symm, h1⟩
  · exact .inr ⟨by simpa using h.symm, by omega, h2⟩

/-- START's checks pass exactly for LEN ≤ 64 and DIGITS in 1..9 (R89). -/
theorem startError?_none (s : State) :
    startError? s = none ↔ s.keyLen.toNat ≤ 64 ∧ 1 ≤ s.digits.toNat ∧ s.digits.toNat ≤ 9 := by
  unfold startError?
  split_ifs with h1 h2
  · simp only [false_iff]; omega
  · simp only [false_iff]; omega
  · simp only [true_iff]; omega

/-- An accepted START's snapshot is legal (R36). -/
theorem snapshot_legal {s : State} (h : startError? s = none) : s.snapshot.Legal := by
  obtain ⟨h1, h2, h3⟩ := (startError?_none s).1 h
  exact ⟨by simp [State.snapshot, State.key, h1], h1, h2, h3⟩

/-! ## STATUS -/

/-- Everything the W1C write does (R79). -/
theorem clearStatus_eq (d e : Bool) (s : State) :
    clearStatus d e s = { s with
      done := if d then false else s.done
      err := if e then false else s.err
      errCode := if e then 0 else s.errCode } := by
  cases d <;> cases e <;> rfl

/-! ## The bus and the agents -/

/-- Every instruction answers a next state: the block has no traps (R132). -/
theorem exec_isNext (i : Instr) (s : State) : ∃ t, exec i s = .next t := by
  cases i <;> exact ⟨_, rfl⟩

/-- Everything an access can do. -/
theorem performAccess_cases (a : Access) (s : State) :
    (s.phase = .unreset ∧ performAccess a s = .refused .accessBeforeReset) ∨
    (s.phase = .inReset ∧ performAccess a s = .refused .accessDuringReset) ∨
    (s.phase = .ready ∧ a.wellFormed = false ∧ performAccess a s = .fault (.busError a.offset)) ∨
    (s.phase = .ready ∧ a.wellFormed = true ∧ performAccess a s = performDecoded (decode a.word) s) := by
  unfold performAccess accept
  cases s.phase <;> cases a.wellFormed <;> simp

/-- A well-formed access in a ready block performs the rule its word selects (R55). -/
theorem performAccess_ready {a : Access} {s : State} (h : s.phase = .ready) (hw : a.wellFormed = true) :
    performAccess a s = performDecoded (decode a.word) s := by
  simp [performAccess, accept, h, hw]

/-- The word of a well-formed access decodes to a form of a transaction (R54, R55). -/
theorem decode_word {a : Access} (hw : a.wellFormed = true) :
    decode a.word = if a.write then decodeWrite a.offset a.data else decodeRead a.offset := by
  have : offsetAligned a.offset = true := by
    simp only [Access.wellFormed, Bool.and_eq_true] at hw; exact hw.2
  simp [decode, Access.word, this]

end Sys2Proof.Laws
end

