-- ==== Sys2Proof/Laws/PerInstr.lean ====
section
/-! SUPPORT. Statements about every instruction as syntax, one lemma for each constructor. -/

namespace Sys2Proof.Laws

/-- The row of the opcode table with an instruction's mnemonic. -/
def rowOf (i : Instr) : Option Row := opcodeTable.find? fun r => r.mnemonic == i.mnemonic

/-- Family EncodesItsRow: the encoder's word is a transaction word, and the row of the opcode table with the instruction's
mnemonic covers it (R54, R63). -/
def EncodesItsRow.Statement (i : Instr) : Prop :=
  offsetAligned (txnOff (encode i)) = true ∧ ∃ r, rowOf i = some r ∧ r.covers (encode i) = true

/-- What a write of DATA at an aligned offset needs to be covered by a row that fixes W and OFF. -/
theorem covers_maskOff (m : String) (w : Bool) (off : BitVec 8) (data : Word) (p : TxnWord)
    (h : txnWord w off 0 = p) : Row.covers ⟨m, p, maskOff⟩ (txnWord w off data) = true := by
  subst h
  simp only [Row.covers, beq_iff_eq, txnWord, maskOff]
  have e : (0x1FF00000000#41 : TxnWord) = BitVec.ofBool true ++ 0xFF#8 ++ (0 : Word) := by decide
  rw [e, BitVec.and_append, BitVec.and_append]
  have h1 : BitVec.ofBool w &&& BitVec.ofBool true = BitVec.ofBool w := by cases w <;> decide
  have h2 : off &&& 0xFF#8 = off := by
    have : (0xFF#8 : BitVec 8) = BitVec.allOnes 8 := by decide
    rw [this, BitVec.and_allOnes]
  have h3 : data &&& (0 : Word) = 0 := by simp
  rw [h1, h2, h3]

theorem EncodesItsRow.cmdNop : EncodesItsRow.Statement (.cmdNop) :=
  ⟨by decide, _, rfl, by decide⟩
theorem EncodesItsRow.cmdStart : EncodesItsRow.Statement (.cmdStart) :=
  ⟨by decide, _, rfl, by decide⟩
theorem EncodesItsRow.cmdClear : EncodesItsRow.Statement (.cmdClear) :=
  ⟨by decide, _, rfl, by decide⟩
theorem EncodesItsRow.wrStatus (doneClr errClr : Bool) : EncodesItsRow.Statement (.wrStatus doneClr errClr) :=
  ⟨by rw [show encode _ = txnWord _ _ _ from rfl, txnOff_txnWord]; decide, _, rfl, covers_maskOff _ _ _ _ _ (by decide)⟩
theorem EncodesItsRow.wrIntEn (doneIe errIe : Bool) : EncodesItsRow.Statement (.wrIntEn doneIe errIe) :=
  ⟨by rw [show encode _ = txnWord _ _ _ from rfl, txnOff_txnWord]; decide, _, rfl, covers_maskOff _ _ _ _ _ (by decide)⟩
theorem EncodesItsRow.wrConfig (digits : BitVec 4) : EncodesItsRow.Statement (.wrConfig digits) :=
  ⟨by rw [show encode _ = txnWord _ _ _ from rfl, txnOff_txnWord]; decide, _, rfl, covers_maskOff _ _ _ _ _ (by decide)⟩
theorem EncodesItsRow.wrKeyLen (len : BitVec 8) : EncodesItsRow.Statement (.wrKeyLen len) :=
  ⟨by rw [show encode _ = txnWord _ _ _ from rfl, txnOff_txnWord]; decide, _, rfl, covers_maskOff _ _ _ _ _ (by decide)⟩
theorem EncodesItsRow.wrCounterHi (value : Word) : EncodesItsRow.Statement (.wrCounterHi value) :=
  ⟨by rw [show encode _ = txnWord _ _ _ from rfl, txnOff_txnWord]; decide, _, rfl, covers_maskOff _ _ _ _ _ (by decide)⟩
theorem EncodesItsRow.wrCounterLo (value : Word) : EncodesItsRow.Statement (.wrCounterLo value) :=
  ⟨by rw [show encode _ = txnWord _ _ _ from rfl, txnOff_txnWord]; decide, _, rfl, covers_maskOff _ _ _ _ _ (by decide)⟩
theorem EncodesItsRow.wrKeyW0 (b0 b1 b2 b3 : Byte) : EncodesItsRow.Statement (.wrKeyW0 b0 b1 b2 b3) :=
  ⟨by rw [show encode _ = txnWord _ _ _ from rfl, txnOff_txnWord]; decide, _, rfl, covers_maskOff _ _ _ _ _ (by decide)⟩
theorem EncodesItsRow.wrKeyW1 (b0 b1 b2 b3 : Byte) : EncodesItsRow.Statement (.wrKeyW1 b0 b1 b2 b3) :=
  ⟨by rw [show encode _ = txnWord _ _ _ from rfl, txnOff_txnWord]; decide, _, rfl, covers_maskOff _ _ _ _ _ (by decide)⟩
theorem EncodesItsRow.wrKeyW2 (b0 b1 b2 b3 : Byte) : EncodesItsRow.Statement (.wrKeyW2 b0 b1 b2 b3) :=
  ⟨by rw [show encode _ = txnWord _ _ _ from rfl, txnOff_txnWord]; decide, _, rfl, covers_maskOff _ _ _ _ _ (by decide)⟩
theorem EncodesItsRow.wrKeyW3 (b0 b1 b2 b3 : Byte) : EncodesItsRow.Statement (.wrKeyW3 b0 b1 b2 b3) :=
  ⟨by rw [show encode _ = txnWord _ _ _ from rfl, txnOff_txnWord]; decide, _, rfl, covers_maskOff _ _ _ _ _ (by decide)⟩
theorem EncodesItsRow.wrKeyW4 (b0 b1 b2 b3 : Byte) : EncodesItsRow.Statement (.wrKeyW4 b0 b1 b2 b3) :=
  ⟨by rw [show encode _ = txnWord _ _ _ from rfl, txnOff_txnWord]; decide, _, rfl, covers_maskOff _ _ _ _ _ (by decide)⟩
theorem EncodesItsRow.wrKeyW5 (b0 b1 b2 b3 : Byte) : EncodesItsRow.Statement (.wrKeyW5 b0 b1 b2 b3) :=
  ⟨by rw [show encode _ = txnWord _ _ _ from rfl, txnOff_txnWord]; decide, _, rfl, covers_maskOff _ _ _ _ _ (by decide)⟩
theorem EncodesItsRow.wrKeyW6 (b0 b1 b2 b3 : Byte) : EncodesItsRow.Statement (.wrKeyW6 b0 b1 b2 b3) :=
  ⟨by rw [show encode _ = txnWord _ _ _ from rfl, txnOff_txnWord]; decide, _, rfl, covers_maskOff _ _ _ _ _ (by decide)⟩
theorem EncodesItsRow.wrKeyW7 (b0 b1 b2 b3 : Byte) : EncodesItsRow.Statement (.wrKeyW7 b0 b1 b2 b3) :=
  ⟨by rw [show encode _ = txnWord _ _ _ from rfl, txnOff_txnWord]; decide, _, rfl, covers_maskOff _ _ _ _ _ (by decide)⟩
theorem EncodesItsRow.wrKeyW8 (b0 b1 b2 b3 : Byte) : EncodesItsRow.Statement (.wrKeyW8 b0 b1 b2 b3) :=
  ⟨by rw [show encode _ = txnWord _ _ _ from rfl, txnOff_txnWord]; decide, _, rfl, covers_maskOff _ _ _ _ _ (by decide)⟩
theorem EncodesItsRow.wrKeyW9 (b0 b1 b2 b3 : Byte) : EncodesItsRow.Statement (.wrKeyW9 b0 b1 b2 b3) :=
  ⟨by rw [show encode _ = txnWord _ _ _ from rfl, txnOff_txnWord]; decide, _, rfl, covers_maskOff _ _ _ _ _ (by decide)⟩
theorem EncodesItsRow.wrKeyW10 (b0 b1 b2 b3 : Byte) : EncodesItsRow.Statement (.wrKeyW10 b0 b1 b2 b3) :=
  ⟨by rw [show encode _ = txnWord _ _ _ from rfl, txnOff_txnWord]; decide, _, rfl, covers_maskOff _ _ _ _ _ (by decide)⟩
theorem EncodesItsRow.wrKeyW11 (b0 b1 b2 b3 : Byte) : EncodesItsRow.Statement (.wrKeyW11 b0 b1 b2 b3) :=
  ⟨by rw [show encode _ = txnWord _ _ _ from rfl, txnOff_txnWord]; decide, _, rfl, covers_maskOff _ _ _ _ _ (by decide)⟩
theorem EncodesItsRow.wrKeyW12 (b0 b1 b2 b3 : Byte) : EncodesItsRow.Statement (.wrKeyW12 b0 b1 b2 b3) :=
  ⟨by rw [show encode _ = txnWord _ _ _ from rfl, txnOff_txnWord]; decide, _, rfl, covers_maskOff _ _ _ _ _ (by decide)⟩
theorem EncodesItsRow.wrKeyW13 (b0 b1 b2 b3 : Byte) : EncodesItsRow.Statement (.wrKeyW13 b0 b1 b2 b3) :=
  ⟨by rw [show encode _ = txnWord _ _ _ from rfl, txnOff_txnWord]; decide, _, rfl, covers_maskOff _ _ _ _ _ (by decide)⟩
theorem EncodesItsRow.wrKeyW14 (b0 b1 b2 b3 : Byte) : EncodesItsRow.Statement (.wrKeyW14 b0 b1 b2 b3) :=
  ⟨by rw [show encode _ = txnWord _ _ _ from rfl, txnOff_txnWord]; decide, _, rfl, covers_maskOff _ _ _ _ _ (by decide)⟩
theorem EncodesItsRow.wrKeyW15 (b0 b1 b2 b3 : Byte) : EncodesItsRow.Statement (.wrKeyW15 b0 b1 b2 b3) :=
  ⟨by rw [show encode _ = txnWord _ _ _ from rfl, txnOff_txnWord]; decide, _, rfl, covers_maskOff _ _ _ _ _ (by decide)⟩
theorem EncodesItsRow.rdCtrl : EncodesItsRow.Statement (.rdCtrl) :=
  ⟨by decide, _, rfl, by decide⟩
theorem EncodesItsRow.rdStatus : EncodesItsRow.Statement (.rdStatus) :=
  ⟨by decide, _, rfl, by decide⟩
theorem EncodesItsRow.rdIntEn : EncodesItsRow.Statement (.rdIntEn) :=
  ⟨by decide, _, rfl, by decide⟩
theorem EncodesItsRow.rdConfig : EncodesItsRow.Statement (.rdConfig) :=
  ⟨by decide, _, rfl, by decide⟩
theorem EncodesItsRow.rdKeyLen : EncodesItsRow.Statement (.rdKeyLen) :=
  ⟨by decide, _, rfl, by decide⟩
theorem EncodesItsRow.rdCounterHi : EncodesItsRow.Statement (.rdCounterHi) :=
  ⟨by decide, _, rfl, by decide⟩
theorem EncodesItsRow.rdCounterLo : EncodesItsRow.Statement (.rdCounterLo) :=
  ⟨by decide, _, rfl, by decide⟩
theorem EncodesItsRow.rdKeyW0 : EncodesItsRow.Statement (.rdKeyW0) :=
  ⟨by decide, _, rfl, by decide⟩
theorem EncodesItsRow.rdKeyW1 : EncodesItsRow.Statement (.rdKeyW1) :=
  ⟨by decide, _, rfl, by decide⟩
theorem EncodesItsRow.rdKeyW2 : EncodesItsRow.Statement (.rdKeyW2) :=
  ⟨by decide, _, rfl, by decide⟩
theorem EncodesItsRow.rdKeyW3 : EncodesItsRow.Statement (.rdKeyW3) :=
  ⟨by decide, _, rfl, by decide⟩
theorem EncodesItsRow.rdKeyW4 : EncodesItsRow.Statement (.rdKeyW4) :=
  ⟨by decide, _, rfl, by decide⟩
theorem EncodesItsRow.rdKeyW5 : EncodesItsRow.Statement (.rdKeyW5) :=
  ⟨by decide, _, rfl, by decide⟩
theorem EncodesItsRow.rdKeyW6 : EncodesItsRow.Statement (.rdKeyW6) :=
  ⟨by decide, _, rfl, by decide⟩
theorem EncodesItsRow.rdKeyW7 : EncodesItsRow.Statement (.rdKeyW7) :=
  ⟨by decide, _, rfl, by decide⟩
theorem EncodesItsRow.rdKeyW8 : EncodesItsRow.Statement (.rdKeyW8) :=
  ⟨by decide, _, rfl, by decide⟩
theorem EncodesItsRow.rdKeyW9 : EncodesItsRow.Statement (.rdKeyW9) :=
  ⟨by decide, _, rfl, by decide⟩
theorem EncodesItsRow.rdKeyW10 : EncodesItsRow.Statement (.rdKeyW10) :=
  ⟨by decide, _, rfl, by decide⟩
theorem EncodesItsRow.rdKeyW11 : EncodesItsRow.Statement (.rdKeyW11) :=
  ⟨by decide, _, rfl, by decide⟩
theorem EncodesItsRow.rdKeyW12 : EncodesItsRow.Statement (.rdKeyW12) :=
  ⟨by decide, _, rfl, by decide⟩
theorem EncodesItsRow.rdKeyW13 : EncodesItsRow.Statement (.rdKeyW13) :=
  ⟨by decide, _, rfl, by decide⟩
theorem EncodesItsRow.rdKeyW14 : EncodesItsRow.Statement (.rdKeyW14) :=
  ⟨by decide, _, rfl, by decide⟩
theorem EncodesItsRow.rdKeyW15 : EncodesItsRow.Statement (.rdKeyW15) :=
  ⟨by decide, _, rfl, by decide⟩
theorem EncodesItsRow.rdDigestW0 : EncodesItsRow.Statement (.rdDigestW0) :=
  ⟨by decide, _, rfl, by decide⟩
theorem EncodesItsRow.rdDigestW1 : EncodesItsRow.Statement (.rdDigestW1) :=
  ⟨by decide, _, rfl, by decide⟩
theorem EncodesItsRow.rdDigestW2 : EncodesItsRow.Statement (.rdDigestW2) :=
  ⟨by decide, _, rfl, by decide⟩
theorem EncodesItsRow.rdDigestW3 : EncodesItsRow.Statement (.rdDigestW3) :=
  ⟨by decide, _, rfl, by decide⟩
theorem EncodesItsRow.rdDigestW4 : EncodesItsRow.Statement (.rdDigestW4) :=
  ⟨by decide, _, rfl, by decide⟩
theorem EncodesItsRow.rdOffset : EncodesItsRow.Statement (.rdOffset) :=
  ⟨by decide, _, rfl, by decide⟩
theorem EncodesItsRow.rdTrunc : EncodesItsRow.Statement (.rdTrunc) :=
  ⟨by decide, _, rfl, by decide⟩
theorem EncodesItsRow.rdCodeValue : EncodesItsRow.Statement (.rdCodeValue) :=
  ⟨by decide, _, rfl, by decide⟩
theorem EncodesItsRow.rdCodeAscii0 : EncodesItsRow.Statement (.rdCodeAscii0) :=
  ⟨by decide, _, rfl, by decide⟩
theorem EncodesItsRow.rdCodeAscii1 : EncodesItsRow.Statement (.rdCodeAscii1) :=
  ⟨by decide, _, rfl, by decide⟩
theorem EncodesItsRow.rdCodeAscii2 : EncodesItsRow.Statement (.rdCodeAscii2) :=
  ⟨by decide, _, rfl, by decide⟩
theorem EncodesItsRow.rdCodeDigits : EncodesItsRow.Statement (.rdCodeDigits) :=
  ⟨by decide, _, rfl, by decide⟩

end Sys2Proof.Laws
end

