-- ==== Sys2Proof/Tests/Slice0.lean ====
section
/-! SUPPORT. Tests. Every expected value is taken from spec/ (95_test_vectors.md unless another file is named) or written out by
hand from its rules; the witnesses show that the hypotheses of the obligations can be met. -/

namespace Sys2Proof.Tests

open Sys2Proof Sys2Proof.Machine

/-! ## Helpers -/

/-- The outcome is a next state of which `p` holds. -/
def answers (o : Host.Outcome State Fault Refusal) (p : State → Bool) : Bool :=
  match o with
  | .next t => p t
  | .fault _ => false
  | .refused _ => false

/-- The last value read. -/
def lastRead (s : State) : Word := s.reads.getLastD 0xFFFFFFFF

/-- One step that issues the table word `w`. -/
def issue (w : Nat) (s : State) : Host.Outcome State Fault Refusal := step (s.withFetchWord 41 w)

/-- The ASCII bytes "12345678901234567890" (G1). -/
def rfcKey : List Byte :=
  [0x31, 0x32, 0x33, 0x34, 0x35, 0x36, 0x37, 0x38, 0x39, 0x30, 0x31, 0x32, 0x33, 0x34, 0x35, 0x36, 0x37, 0x38, 0x39, 0x30]

/-- A key buffer that starts with the given bytes. -/
def bufferOf (key : List Byte) : Vector Byte 64 := Vector.ofFn fun i => byteAt key i.val

/-- The RFC key loaded after reset. -/
def loaded : State := { State.reset with keybuf := bufferOf rfcKey, keyLen := 20 }

/-- The block while it computes the code of the RFC key, counter 0, 6 digits. -/
def busyState : State :=
  { State.reset with fsm := .busy, wk := { key := rfcKey, keylen := 20, counter := 0, digits := 6 } }

/-- Every readable register at a value of its own. -/
def marked : State :=
  { State.reset with
    done := true, err := true, errCode := 3, errIe := true, digits := 9, keyLen := 0x40
    counterHi := 0x01020304, counterLo := 0x05060708
    keybuf := Vector.replicate 64 0xA5
    digest := #v[0xD0, 0xD1, 0xD2, 0xD3, 0xD4], offset := 0xF, trunc := 0x7FFFFFFF, codeValue := 0x3FFFFFFF
    codeAscii := #v[0xA0, 0xA1, 0xA2], codeDigits := 9 }

/-- A 20-byte digest from its five words. -/
def digestOf (a b c d e : Word) : List Byte := be4 a ++ be4 b ++ be4 c ++ be4 d ++ be4 e

/-! ## WellFormed: each check refuses an ill-formed term, and admits its neighbour -/

/-- V-B2q: a 2-byte access. -/
theorem test_wf_size : Access.wellFormed { write := true, size := 2, offset := 0x04, data := 0 } = false ∧
    Access.wellFormed { write := true, size := 4, offset := 0x04, data := 0 } = true := by decide

/-- V-B2r: an access at offset 0x02. -/
theorem test_wf_alignment : Access.wellFormed { write := true, size := 4, offset := 0x02, data := 1 } = false := by decide

/-- R61: `[0x1D]` is no word slot, `[0x1C]` is one. -/
theorem test_wf_reg : Reg.wellFormed (.raw 0x1D) = false ∧ Reg.wellFormed (.raw 0x1C) = true := by decide

/-- R62: LOADKEY has n ≤ 64 bytes. -/
theorem test_wf_loadKey : HostLine.wellFormed (.loadKey (zeros 65)) = false ∧
    HostLine.wellFormed (.loadKey (zeros 64)) = true := by decide

/-- R61: a line with an ill-formed register. -/
theorem test_wf_lines : HostLine.wellFormed (.wr (.raw 0x02) 1) = false ∧ HostLine.wellFormed (.rd (.raw 0x03)) = false ∧
    HostLine.wellFormed (.poll (.raw 0x05) 1 0) = false := by decide

/-- R23, R24: out-of-range DIGITS and LEN are legal operands. -/
theorem test_wf_operands : Instr.wellFormed (.wrConfig 15) = true ∧ Instr.wellFormed (.wrKeyLen 255) = true := by decide

/-! ## Decode: words written out from R54, R57 and R59 (`0xW_OFF_DATA`; V-B, P1-P7) -/

/-- The command words (R57), with reserved bits set (V-B2h, V-B2j). -/
theorem test_decode_commands :
    decode 0x10000000000#41 = .instr .cmdNop ∧ decode 0x100FFFFFFF0#41 = .instr .cmdNop ∧
    decode 0x10000000001#41 = .instr .cmdStart ∧ decode 0x100ABCDEF01#41 = .instr .cmdStart ∧
    decode 0x10000000002#41 = .instr .cmdClear ∧ decode 0x100FFFFFFF2#41 = .instr .cmdClear := by decide

/-- The same START bit by bit: W = 1, OFF = 00000000, DATA[3:0] = 0001 under reserved bits that are all 0. -/
theorem test_decode_start_bits :
    decode (0b1#1 ++ 0b00000000#8 ++ 0b0000000000000000000000000000#28 ++ 0b0001#4) = .instr .cmdStart := by decide

/-- A key write bit by bit: W = 1, OFF = 00100100 (0x24), then the bytes b0..b3 from the top (R59). -/
theorem test_decode_key_bits :
    decode (0b1#1 ++ 0b00100100#8 ++ 0b00110101#8 ++ 0b00110110#8 ++ 0b00110111#8 ++ 0b00111000#8) =
      .instr (.wrKeyW1 0x35 0x36 0x37 0x38) := by decide

/-- A read bit by bit: W = 0, OFF = 10001100 (0x8C), DATA = 0. -/
theorem test_decode_read_bits : decode (0b0#1 ++ 0b10001100#8 ++ 0#32) = .instr .rdCodeDigits := by decide

/-- The status and control writes (V-B2a..V-B2e, V-B2m..V-B2o). -/
theorem test_decode_writes :
    decode 0x10400000002#41 = .instr (.wrStatus true false) ∧ decode 0x10400000004#41 = .instr (.wrStatus false true) ∧
    decode 0x104FFFFFFF9#41 = .instr (.wrStatus false false) ∧
    decode 0x10800000001#41 = .instr (.wrIntEn true false) ∧ decode 0x10800000002#41 = .instr (.wrIntEn false true) ∧
    decode 0x10C0000001F#41 = .instr (.wrConfig 15) ∧ decode 0x10C00000010#41 = .instr (.wrConfig 0) ∧
    decode 0x11000000100#41 = .instr (.wrKeyLen 0) ∧ decode 0x110000001FF#41 = .instr (.wrKeyLen 255) ∧
    decode 0x114FFFFFFFF#41 = .instr (.wrCounterHi 0xFFFFFFFF) ∧
    decode 0x118023523EC#41 = .instr (.wrCounterLo 0x023523EC) := by decide

/-- The key writes of P7, first half. -/
theorem test_decode_key_writes_low :
    decode 0x12000010203#41 = .instr (.wrKeyW0 0x00 0x01 0x02 0x03) ∧
    decode 0x12404050607#41 = .instr (.wrKeyW1 0x04 0x05 0x06 0x07) ∧
    decode 0x12808090A0B#41 = .instr (.wrKeyW2 0x08 0x09 0x0A 0x0B) ∧
    decode 0x12C0C0D0E0F#41 = .instr (.wrKeyW3 0x0C 0x0D 0x0E 0x0F) ∧
    decode 0x13010111213#41 = .instr (.wrKeyW4 0x10 0x11 0x12 0x13) ∧
    decode 0x13414151617#41 = .instr (.wrKeyW5 0x14 0x15 0x16 0x17) ∧
    decode 0x13818191A1B#41 = .instr (.wrKeyW6 0x18 0x19 0x1A 0x1B) ∧
    decode 0x13C1C1D1E1F#41 = .instr (.wrKeyW7 0x1C 0x1D 0x1E 0x1F) := by decide

/-- The key writes of P7, second half. -/
theorem test_decode_key_writes_high :
    decode 0x14020212223#41 = .instr (.wrKeyW8 0x20 0x21 0x22 0x23) ∧
    decode 0x14424252627#41 = .instr (.wrKeyW9 0x24 0x25 0x26 0x27) ∧
    decode 0x14828292A2B#41 = .instr (.wrKeyW10 0x28 0x29 0x2A 0x2B) ∧
    decode 0x14C2C2D2E2F#41 = .instr (.wrKeyW11 0x2C 0x2D 0x2E 0x2F) ∧
    decode 0x15030313233#41 = .instr (.wrKeyW12 0x30 0x31 0x32 0x33) ∧
    decode 0x15434353637#41 = .instr (.wrKeyW13 0x34 0x35 0x36 0x37) ∧
    decode 0x15838393A3B#41 = .instr (.wrKeyW14 0x38 0x39 0x3A 0x3B) ∧
    decode 0x15C3C3D3E3F#41 = .instr (.wrKeyW15 0x3C 0x3D 0x3E 0x3F) := by decide

/-- The reads of the control and input registers (V-B1). -/
theorem test_decode_reads_inputs :
    decode 0x00000000000#41 = .instr .rdCtrl ∧ decode 0x00400000000#41 = .instr .rdStatus ∧
    decode 0x00800000000#41 = .instr .rdIntEn ∧ decode 0x00C00000000#41 = .instr .rdConfig ∧
    decode 0x01000000000#41 = .instr .rdKeyLen ∧ decode 0x01400000000#41 = .instr .rdCounterHi ∧
    decode 0x01800000000#41 = .instr .rdCounterLo := by decide

/-- The reads of the key words (V-B1). -/
theorem test_decode_reads_key :
    decode 0x02000000000#41 = .instr .rdKeyW0 ∧ decode 0x02400000000#41 = .instr .rdKeyW1 ∧
    decode 0x02800000000#41 = .instr .rdKeyW2 ∧ decode 0x02C00000000#41 = .instr .rdKeyW3 ∧
    decode 0x03000000000#41 = .instr .rdKeyW4 ∧ decode 0x03400000000#41 = .instr .rdKeyW5 ∧
    decode 0x03800000000#41 = .instr .rdKeyW6 ∧ decode 0x03C00000000#41 = .instr .rdKeyW7 ∧
    decode 0x04000000000#41 = .instr .rdKeyW8 ∧ decode 0x04400000000#41 = .instr .rdKeyW9 ∧
    decode 0x04800000000#41 = .instr .rdKeyW10 ∧ decode 0x04C00000000#41 = .instr .rdKeyW11 ∧
    decode 0x05000000000#41 = .instr .rdKeyW12 ∧ decode 0x05400000000#41 = .instr .rdKeyW13 ∧
    decode 0x05800000000#41 = .instr .rdKeyW14 ∧ decode 0x05C00000000#41 = .instr .rdKeyW15 := by decide

/-- The reads of the result registers (V-B1). -/
theorem test_decode_reads_results :
    decode 0x06000000000#41 = .instr .rdDigestW0 ∧ decode 0x06400000000#41 = .instr .rdDigestW1 ∧
    decode 0x06800000000#41 = .instr .rdDigestW2 ∧ decode 0x06C00000000#41 = .instr .rdDigestW3 ∧
    decode 0x07000000000#41 = .instr .rdDigestW4 ∧ decode 0x07400000000#41 = .instr .rdOffset ∧
    decode 0x07800000000#41 = .instr .rdTrunc ∧ decode 0x07C00000000#41 = .instr .rdCodeValue ∧
    decode 0x08000000000#41 = .instr .rdCodeAscii0 ∧ decode 0x08400000000#41 = .instr .rdCodeAscii1 ∧
    decode 0x08800000000#41 = .instr .rdCodeAscii2 ∧ decode 0x08C00000000#41 = .instr .rdCodeDigits := by decide

/-- A read's DATA is ignored (R54). -/
theorem test_decode_read_data : decode 0x07CFFFFFFFF#41 = .instr .rdCodeValue := by decide

/-- The words of no row (R55 cases 1 and 4, R58; V-B1, V-B2k, V-B2l) and a word that is no transaction word (R54). -/
theorem test_decode_no_row :
    decode 0x01C00000000#41 = .rdReserved 0x1C ∧ decode 0x09000000000#41 = .rdReserved 0x90 ∧
    decode 0x0FC00000000#41 = .rdReserved 0xFC ∧ decode 0x17C0001E240#41 = .wrIgnored 0x7C 0x0001E240 ∧
    decode 0x190FFFFFFFF#41 = .wrIgnored 0x90 0xFFFFFFFF ∧ decode 0x11C00000001#41 = .wrIgnored 0x1C 1 ∧
    decode 0x16000000001#41 = .wrIgnored 0x60 1 ∧ decode 0x10000000003#41 = .cmdReserved 3 ∧
    decode 0x1000000000F#41 = .cmdReserved 15 ∧ decode 0x10200000001#41 = .rejected (.misaligned 0x02) := by decide

/-- The host's view: a table word has 41 bits. -/
theorem test_decode_table_word : decodeTableWord 41 0x10000000001 = some .cmdStart ∧
    decodeTableWord 48 0x10000000001 = some .cmdStart ∧ decodeTableWord 48 0x20000000001 = none ∧
    decodeTableWord 41 0x10000000003 = none := by decide

/-- Encoding, against P1 and P2's listings. -/
theorem test_encode : encode .cmdStart = 0x10000000001#41 ∧ encode (.wrStatus true true) = 0x10400000006#41 ∧
    encode (.wrKeyW4 0x37 0x38 0x39 0x30) = 0x13037383930#41 ∧ encode (.wrConfig 8) = 0x10C00000008#41 ∧
    encode .rdCodeAscii1 = 0x08400000000#41 := by decide

/-! ## Host programs (R61, R62) -/

/-- LOADKEY of 5 bytes: two words, the missing bytes 0x00, then KEY_LEN = 5 (R62). -/
theorem test_expand_loadKey : expandLine (.loadKey [0x31, 0x32, 0x33, 0x34, 0x35]) =
    [.access (writeAt 0x20 0x31323334), .access (writeAt 0x24 0x35000000), .access (writeAt 0x10 5)] := by decide

/-- LOADCTR, ACK, DIGITS and WAIT (R62). -/
theorem test_expand_lines : expandLine (.loadCtr 0x0102030405060708) =
      [.access (writeAt 0x14 0x01020304), .access (writeAt 0x18 0x05060708)] ∧
    expandLine .ack = [.access (writeAt 0x04 6)] ∧ expandLine (.digits 8) = [.access (writeAt 0x0C 8)] ∧
    expandLine .wait = [.poll 0x04 1 0] := by decide

/-- READCODE (R62): the six reads in order. -/
theorem test_expand_readCode : expandLine .readCode = [.access (readAt 0x04), .access (readAt 0x8C), .access (readAt 0x7C),
    .access (readAt 0x80), .access (readAt 0x84), .access (readAt 0x88)] := by decide

/-! ## Commands -/

/-- V-B2i. -/
theorem test_nop : answers (issue 0x10000000000 State.reset) (fun t => t == State.reset) = true := by decide +kernel

/-- V-B2g, V-E8: START with 64 key bytes is accepted, and the snapshot holds them all (R89). -/
theorem test_start_accepted :
    answers (issue 0x10000000001 { marked with counterHi := 1 }) (fun t => t.statusWord == 1 &&
      t.wk == { key := List.replicate 64 0xA5, keylen := 64, counter := 0x0000000105060708, digits := 9 } &&
      t.digest == Vector.replicate 5 0 && t.codeDigits == 0) = true := by decide +kernel

/-- V-E1, V-E2, V-E3: DIGITS 0, 10 and 15 give ERR_DIGITS. -/
theorem test_start_digits : [0x0#4, 0xA#4, 0xF#4].all (fun d =>
    answers (issue 0x10000000001 { State.reset with digits := d }) (fun t => t.statusWord == 0x14)) = true := by
  decide +kernel

/-- V-E6, V-E10: LEN = 65 gives ERR_KEYLEN, and it is checked before DIGITS; the old result is gone (R89). -/
theorem test_start_keyLen :
    answers (issue 0x10000000001 { State.reset with keyLen := 0x41 }) (fun t => t.statusWord == 0x24) = true ∧
    answers (issue 0x10000000001 { marked with keyLen := 0x46, digits := 0 })
      (fun t => t.statusWord == 0x24 && t.codeValue == 0 && t.fsm == .idle) = true := by decide +kernel

/-- V-E11: START while BUSY. -/
theorem test_start_busy :
    answers (issue 0x10000000001 busyState) (fun t => t.statusWord == 0x35 && t.wk == busyState.wk) = true := by
  decide +kernel

/-- V-E12, V-E14: reserved commands. -/
theorem test_reserved_command :
    answers (issue 0x10000000003 State.reset) (fun t => t.statusWord == 0x44) = true ∧
    answers (issue 0x10000000005 busyState) (fun t => t.statusWord == 0x45) = true := by decide +kernel

/-- V-R2: CLEAR while BUSY gives the reset state. -/
theorem test_clear : answers (issue 0x10000000002 { marked with fsm := .busy, wk := busyState.wk })
    (fun t => t == State.reset) = true := by decide +kernel

/-! ## Writes -/

/-- V-B2m, V-B2n: from STATUS = 0x36. -/
theorem test_wrStatus :
    answers (issue 0x10400000004 { State.reset with done := true, err := true, errCode := 3 }) (fun t => t.statusWord == 2) = true ∧
    answers (issue 0x10400000002 { State.reset with done := true, err := true, errCode := 3 })
      (fun t => t.statusWord == 0x34) = true := by decide +kernel

/-- V-B2o: BUSY cannot be cleared. -/
theorem test_wrStatus_busy : answers (issue 0x104FFFFFFFF busyState) (fun t => t.statusWord == 1) = true := by decide +kernel

/-- V-B2a, V-E18: INT_EN stores its two bits; with INT_EN = 0x1 and DONE = 1 irq is 1, with INT_EN = 0 it is 0. -/
theorem test_wrIntEn : answers (issue 0x108FFFFFFFF State.reset) (fun t => t.intEnWord == 3) = true ∧
    answers (issue 0x10800000001 { State.reset with done := true }) (fun t => t.irq) = true ∧
    answers (issue 0x10800000000 { State.reset with done := true, doneIe := true }) (fun t => !t.irq) = true := by
  decide +kernel

/-- V-B2b, V-B2c. -/
theorem test_wrConfig : answers (issue 0x10C0000001F State.reset) (fun t => t.digits == 0xF) = true ∧
    answers (issue 0x10C00000010 State.reset) (fun t => t.digits == 0) = true := by decide +kernel

/-- V-B2d, V-B2e. -/
theorem test_wrKeyLen : answers (issue 0x11000000100 State.reset) (fun t => t.keyLen == 0) = true ∧
    answers (issue 0x110000001FF State.reset) (fun t => t.keyLen == 0xFF) = true := by decide +kernel

/-- V-B2p and R83: each half of the counter is written alone, with no carry. -/
theorem test_wrCounter :
    answers (issue 0x114FFFFFFFF marked) (fun t => t.counterHi == 0xFFFFFFFF && t.counterLo == 0x05060708) = true ∧
    answers (issue 0x11800000000 { marked with counterLo := 0xFFFFFFFF })
      (fun t => t.counterHi == 0x01020304 && t.counterLo == 0) = true := by decide +kernel

/-- V-B2f and P7 step 16: the first and the last key word, big-endian (R85). -/
theorem test_wrKey_first_last :
    answers (issue 0x12031323334 State.reset) (fun t => t.keybuf.toList == [0x31, 0x32, 0x33, 0x34] ++ zeros 60) = true ∧
    answers (issue 0x15C3C3D3E3F State.reset) (fun t => t.keybuf.toList == zeros 60 ++ [0x3C, 0x3D, 0x3E, 0x3F]) = true := by
  decide +kernel

/-- R85: each key write stores at KEYBUF[4n .. 4n+3] and nowhere else. -/
theorem test_wrKey_each : (List.range 16).all (fun n =>
    answers (issue ((0x120 + 4 * n) * 0x100000000 + 0x31323334) State.reset)
      (fun t => t.keybuf.toList == zeros (4 * n) ++ [0x31, 0x32, 0x33, 0x34] ++ zeros (60 - 4 * n))) = true := by
  decide +kernel

/-- V-B2k, V-B2l: ignored writes. -/
theorem test_ignored_writes : answers (issue 0x17C0001E240 marked) (fun t => t == marked) = true ∧
    answers (issue 0x190FFFFFFFF marked) (fun t => t == marked) = true := by decide +kernel

/-! ## Reads -/

/-- V-B1: every register right after reset. -/
theorem test_reads_after_reset : ((List.range 64).filter (fun n => n != 3 && n != 4)).all (fun n =>
      answers (issue (4 * n * 0x100000000) State.reset) (fun t => lastRead t == 0)) = true ∧
    answers (issue 0x00C00000000 State.reset) (fun t => lastRead t == 6) = true ∧
    answers (issue 0x01000000000 State.reset) (fun t => lastRead t == 0x0A) = true := by decide +kernel

/-- R64-R70: the control and input registers, from their fields (STATUS = 0x36: ERR_CODE 3, ERR, DONE). -/
theorem test_reads_inputs : [(0x000, 0), (0x004, 0x36), (0x008, 2), (0x00C, 9), (0x010, 0x40), (0x014, 0x01020304),
      (0x018, 0x05060708)].all (fun p =>
    answers (issue (p.1 * 0x100000000) marked) (fun t => lastRead t == BitVec.ofNat 32 p.2)) = true := by decide +kernel

/-- R71: the key reads back as 0, whatever was written. -/
theorem test_reads_key : (List.range 16).all (fun n =>
    answers (issue ((0x20 + 4 * n) * 0x100000000) marked) (fun t => lastRead t == 0)) = true := by decide +kernel

/-- R72-R77: the result registers. -/
theorem test_reads_results : [(0x60, 0xD0), (0x64, 0xD1), (0x68, 0xD2), (0x6C, 0xD3), (0x70, 0xD4), (0x74, 0xF),
      (0x78, 0x7FFFFFFF), (0x7C, 0x3FFFFFFF), (0x80, 0xA0), (0x84, 0xA1), (0x88, 0xA2), (0x8C, 9)].all (fun p =>
    answers (issue (p.1 * 0x100000000) marked) (fun t => lastRead t == BitVec.ofNat 32 p.2)) = true := by decide +kernel

/-! ## Bus errors, reset and power -/

/-- V-B2q, V-B2r: both accesses end in a bus error, and neither performs a command. -/
theorem test_bus_errors :
    performAccess { write := true, size := 2, offset := 0x04, data := 0 } State.reset = .fault (.busError 0x04) ∧
    performAccess { write := true, size := 4, offset := 0x02, data := 1 } State.reset = .fault (.busError 0x02) :=
  ⟨rfl, rfl⟩

/-- V-R3: reset while BUSY; an access before the release is refused (R142). -/
theorem test_reset_while_busy : answers (step { marked with fsm := .busy, wk := busyState.wk, turns := [.rstAssert] })
      (fun t => t == { State.reset with phase := .inReset }) = true ∧
    performAccess (readAt 0x04) { State.reset with phase := .inReset } = .refused .accessDuringReset :=
  ⟨by decide +kernel, rfl⟩

/-- R145: nothing is accepted after power-up until a reset. -/
theorem test_power_up : performAccess (readAt 0x04) (powerUp State.reset) = .refused .accessBeforeReset := rfl

/-! ## SHA-1 (G3, V-S) -/

/-- V-S1. -/
theorem test_sha1_abc : sha1 [0x61, 0x62, 0x63] =
    digestOf 0xa9993e36 0x4706816a 0xba3e2571 0x7850c26c 0x9cd0d89d := by decide +kernel

/-- V-S3, V-S4: 55 bytes fit one block, 56 do not. -/
theorem test_sha1_55_56 : sha1 (List.replicate 55 0x61) = digestOf 0xc1c8bbdc 0x22796e28 0xc0e15163 0xd20899b6 0x5621d65a ∧
    sha1 (List.replicate 56 0x61) = digestOf 0xc2db330f 0x6083854c 0x99d4b5bf 0xb6e8f29f 0x201be699 := by decide +kernel

/-- V-S6, V-S7. -/
theorem test_compress : compress sha1IV (List.replicate 64 0x36) =
      { h0 := 0xc9f7bd57, h1 := 0x621bd73b, h2 := 0xea0fead1, h3 := 0x41a5a132, h4 := 0x4e4f361d } ∧
    compress sha1IV (List.replicate 64 0x5C) =
      { h0 := 0x978a24a4, h1 := 0x70daf4d3, h2 := 0x13e1be88, h3 := 0x387c2231, h4 := 0x7456516d } := by decide +kernel

/-- G3: W[16..19] of the "abc" block. -/
theorem test_schedule : ((schedule (sha1Pad [0x61, 0x62, 0x63])).drop 16).take 4 =
    [0xc2c4c700, 0x00000000, 0x00000030, 0x85898e01] := by decide +kernel

/-! ## HMAC (V-H) -/

/-- V-H1: INNER and D for the RFC key and counter 0. -/
theorem test_hmac_rfc : innerHash rfcKey (be8 0) = digestOf 0x0891d9be 0x09bb16c7 0xc8722df3 0x68d86350 0x667e499e ∧
    hmacSha1 rfcKey (be8 0) = digestOf 0xcc93cf18 0x508d9493 0x4c64b65d 0x8ba7667f 0xb7cde4b0 := by decide +kernel

/-- V-H5, V-H6: the longest key with the largest counter, and the counter's byte order. -/
theorem test_hmac_counter : hmacSha1 ((List.range 64).map (BitVec.ofNat 8)) (be8 0xFFFFFFFFFFFFFFFF) =
      digestOf 0xdd74e95f 0x9976af56 0xe7426aa3 0x001d17ea 0xdf76bd5b ∧
    hmacSha1 rfcKey (be8 0x0102030405060708) = digestOf 0x1d93c9d0 0x78de409c 0xffa50f2e 0x7bc143d4 0xe6138aa5 := by
  decide +kernel

/-! ## Truncation and the code (V-T) -/

/-- V-T2, V-T5: offset 15, and the top bit of D[off] masked. -/
theorem test_truncate : truncOffset (List.replicate 20 0xFF) = 15 ∧ trunc31 (List.replicate 20 0xFF) 15 = 0x7FFFFFFF ∧
    truncOffset (digestOf 0x9b9dd5ef 0x9a9ad25d 0xd73bf9ac 0xcea66f89 0xa125e873) = 3 ∧
    trunc31 (digestOf 0x9b9dd5ef 0x9a9ad25d 0xd73bf9ac 0xcea66f89 0xa125e873) 3 = 0x6F9A9AD2 := by decide +kernel

/-- V-T6, V-T9: leading zeros and the corner values. -/
theorem test_code : codeValueOf 0x456149C8 6 = 3784 ∧ codeValueOf 0x7FFFFFFF 9 = 147483647 ∧ codeValueOf 0x7FFFFFFF 1 = 7 ∧
    codeValueOf 1000000 6 = 0 ∧ codeBuf 3784 6 = [0x30, 0x30, 0x33, 0x37, 0x38, 0x34, 0, 0, 0, 0, 0, 0] ∧
    codeBuf 147483647 9 = [0x31, 0x34, 0x37, 0x34, 0x38, 0x33, 0x36, 0x34, 0x37, 0, 0, 0] := by decide +kernel

/-! ## COMPLETE -/

/-- G1, c = 0 (P1): the result registers after COMPLETE. -/
theorem test_complete_rfc : answers (step { busyState with turns := [.engine] }) (fun t => t.statusWord == 2 &&
    t.digest == #v[0xcc93cf18, 0x508d9493, 0x4c64b65d, 0x8ba7667f, 0xb7cde4b0] && t.offset == 0 && t.trunc == 0x4C93CF18 &&
    t.codeValue == 755224 && t.codeAscii == #v[0x37353532, 0x32340000, 0x00000000] && t.codeDigits == 6 &&
    t.wk == .zero) = true := by decide +kernel

/-- V-R1 (P5): START right after reset, then the engine's turn by default (R94). -/
theorem test_start_after_reset : answers (runFor 2 (State.reset.withFetchWord 41 0x10000000001)) (fun t =>
    t.statusWord == 2 && t.digest == #v[0xDAB69AD9, 0x8E28764F, 0x977EE248, 0x7E4F3F68, 0x73B2A297] && t.offset == 7 &&
    t.trunc == 0x4F977EE2 && t.codeValue == 328482 && t.codeAscii == #v[0x33323834, 0x38320000, 0]) = true := by
  decide +kernel

/-! ## Witnesses: the hypotheses of each obligation can be met -/

theorem witness_DecodeOfEncodeIsTheInstruction : Instr.wellFormed (.wrKeyW15 0x00 0x7F 0x80 0xFF) = true := by decide

theorem witness_EncodeOfDecodeKeepsTheFields : decode 0x10C0000001F#41 = .instr (.wrConfig 15) ∧
    decode 0x07C12345678#41 = .instr .rdCodeValue := by decide

theorem witness_DecoderFollowsTheOpcodeTable : ⟨"CMD_NOP", 0x10000000000#41, maskCmd⟩ ∈ opcodeTable ∧
    ⟨"RD_CODE_DIGITS", 0x08C00000000#41, maskOff⟩ ∈ opcodeTable ∧
    Row.covers ⟨"CMD_NOP", 0x10000000000#41, maskCmd⟩ 0x100FFFFFFF0#41 = true := by decide

theorem witness_OpcodeTableRowsAreDisjoint : ⟨"CMD_START", 0x10000000001#41, maskCmd⟩ ∈ opcodeTable ∧
    Row.covers ⟨"CMD_START", 0x10000000001#41, maskCmd⟩ 0x100FFFFFFF1#41 = true := by decide

/-- Reserved reads at 0x1C, 0x90 and 0xFC; commands 3 and 15; ignored writes at 0x1C, 0x60 and 0xFC. -/
theorem witness_WordsWithoutARowDecodeAsTheRulesSay :
    [0x01C00000000#41, 0x09000000000#41, 0x0FC00000000#41, 0x10000000003#41, 0x1000000000F#41, 0x11C00000000#41,
      0x16000000000#41, 0x1FC00000000#41].all (fun t => offsetAligned (txnOff t) && opcodeTable.all (fun r => !r.covers t)) = true ∧
    txnW 0x01C00000000#41 = false ∧ txnW 0x10000000003#41 = true ∧ txnOff 0x10000000003#41 = 0x00#8 ∧
    txnW 0x16000000000#41 = true ∧ txnOff 0x16000000000#41 ≠ 0x00#8 := by decide +kernel

/-- A pending START with the HOST's turn fixed, and one with no turn fixed in IDLE. -/
theorem witness_AHostTurnPerformsTheDecodedInstruction :
    (writeAt 0x00 1).wellFormed = true ∧ decode (writeAt 0x00 1).word = .instr .cmdStart ∧
    (∃ s : State, s.phase = .ready ∧ s.host = [.access (writeAt 0x00 1)] ∧ s.turns = [.host, .engine]) ∧
    (∃ s : State, s.phase = .ready ∧ s.host = [.access (writeAt 0x00 1)] ∧ s.turns = [] ∧ s.fsm = .idle) :=
  ⟨by decide, by decide, ⟨{ loaded with host := [.access (writeAt 0x00 1)], turns := [.host, .engine] }, rfl, rfl, rfl⟩,
    ⟨{ loaded with host := [.access (writeAt 0x00 1)] }, rfl, rfl, rfl, rfl⟩⟩

theorem witness_AnIssuedTableWordRunsNext : busyState.phase = .ready ∧
    decodeTableWord 41 0x10400000006 = some (.wrStatus true true) := by decide

/-- A misaligned access, a wrong size, and a fitting access. -/
theorem witness_OnlyMisfitAccessesRaiseBusError : marked.phase = .ready ∧
    ({ write := false, size := 8, offset := 0x00, data := 0 } : Access).size ≠ 4 ∧ (readAt 0xFF).offset.toNat % 4 ≠ 0 ∧
    (readAt 0xFC).size = 4 ∧ (readAt 0xFC).offset.toNat % 4 = 0 := by decide

/-- The last offset of the window and the first address above it, for every BASE; below BASE there is one when BASE is not 0. -/
theorem witness_TheWindowIsAtBase : 0 < 256 ∧ 255 < 256 ∧ Config.base + 0xFF < Config.base + 0x100 ∧
    (Config.base ≠ 0 → Config.base - 1 < Config.base) := by omega

theorem witness_ReservedReadsReturnZero : marked.phase = .ready ∧
    [0x1C#8, 0x90#8, 0xFC#8].all (fun off => decide (off = 0x1C#8 ∨ (0x90 ≤ off.toNat ∧ off.toNat % 4 = 0))) = true := by decide

theorem witness_WritesToReadOnlyOrReservedOffsetsAreIgnored : busyState.phase = .ready ∧
    [0x1C#8, 0x60#8, 0x8C#8, 0x90#8, 0xFC#8].all
      (fun off => decide (off = 0x1C#8 ∨ (0x60 ≤ off.toNat ∧ off.toNat % 4 = 0))) = true := by decide

theorem witness_ReservedCommandsOnlySetErrCmd : busyState.phase = .ready ∧ 3 ≤ (0xFFFFFFF3#32).toNat % 16 ∧
    3 ≤ (0x0000000F#32).toNat % 16 := by decide

/-- Also the key words 0 and 15. -/
theorem witness_RegisterWritesStoreTheirDataFields : busyState.phase = .ready ∧ 0 < 16 ∧ 15 < 16 := by decide

theorem witness_CtrlWritesIgnoreTheUpperDataBits : State.reset.phase = .ready ∧ (0xFFFFFFF0#32).toNat % 16 = 0 ∧
    (0xABCDEF01#32).toNat % 16 = 1 ∧ (0x80000002#32).toNat % 16 = 2 := by decide

theorem witness_ReadsHaveNoSideEffects : txnW (encode .rdStatus) = false ∧ txnW (encode .rdCodeDigits) = false ∧
    marked.phase = .ready ∧ (readAt 0xFC).write = false ∧ (readAt 0xFC).wellFormed = true := by decide

theorem witness_StatusWriteClearsOnlyTheStrobedBits : marked.phase = .ready ∧ marked.statusWord = 0x36 := by decide

theorem witness_InputWritesStoreTheirField : marked.phase = .ready ∧ busyState.phase = .ready := by decide

theorem witness_KeyWritesStoreFourBytes : marked.phase = .ready ∧ 0 < 16 ∧ 15 < 16 := by decide

theorem witness_InterruptLevelFollowsStatusAndEnable : marked.irq = true ∧ marked.fsm = .idle ∧ marked.keyLen.toNat ≤ 64 ∧
    1 ≤ marked.digits.toNat ∧ marked.digits.toNat ≤ 9 := by decide

theorem witness_NopLeavesAllStateUnchanged : busyState.phase = .ready ∧ (0xFFFFFFF0#32).toNat % 16 = 0 := by decide

/-- LEN = 0 and 64, DIGITS = 1 and 9; with LEN = 64 key byte 63 is in the snapshot. -/
theorem witness_AcceptedStartTakesTheSnapshot : State.StartReady { marked with keyLen := 0, digits := 1 } ∧
    State.StartReady marked ∧ 63 < marked.keyLen.toNat :=
  ⟨⟨rfl, by decide⟩, ⟨rfl, by decide⟩, by decide⟩

theorem witness_StartWhileBusyIsRefused : busyState.fsm = .busy ∧ busyState.phase = .ready := by decide

/-- One state for each check: BUSY; LEN = 65; DIGITS = 0 and 10 with a legal LEN; a misaligned access. -/
theorem witness_StartChecksKeyLenThenDigits : busyState.fsm = .busy ∧ State.reset.fsm = .idle ∧
    ({ State.reset with keyLen := 65 } : State).keyLen.toNat > 64 ∧ ({ State.reset with digits := 0 } : State).digits.toNat = 0 ∧
    ({ State.reset with digits := 10 } : State).digits.toNat > 9 ∧ State.reset.phase = .ready ∧
    (writeAt 0x02 1).offset.toNat % 4 ≠ 0 := by decide

theorem witness_ClearHasTheEffectOfReset : ({ marked with fsm := .busy } : State).phase = .ready := by decide

theorem witness_CompleteWritesTheResult : busyState.phase = .ready ∧ busyState.fsm = .busy ∧ busyState.wk.digits.toNat ≤ 9 := by
  decide

theorem witness_CompleteIsEnabledOnlyWhileBusy : marked.phase = .ready ∧ marked.fsm = .idle := by decide

/-- DIGITS = 1 and 9. -/
theorem witness_CompletedResultsAreConsistent : [1#4, 6#4, 9#4].all (fun d =>
    let s : State := { busyState with wk := { busyState.wk with digits := d } }
    decide (s.phase = .ready ∧ s.fsm = .busy ∧ 1 ≤ s.wk.digits.toNat ∧ s.wk.digits.toNat ≤ 9)) = true := by decide

/-- Two states that differ in KEYBUF past LEN, in the status bits and in the old result. -/
theorem witness_EqualInputsGiveEqualResults : loaded.phase = .ready ∧ loaded.StartReady ∧
    ∃ t : State, t ≠ loaded ∧ t.phase = .ready ∧ t.fsm = .idle ∧ SameInputs loaded t :=
  ⟨rfl, ⟨rfl, by decide⟩,
    { loaded with keybuf := bufferOf (rfcKey ++ [0xFF]), done := true, trunc := 5 }, by decide, rfl, rfl,
    ⟨rfl, by decide, rfl, rfl, rfl⟩⟩

theorem witness_WritesWhileBusyDoNotReachTheComputation : busyState.phase = .ready ∧ busyState.fsm = .busy ∧
    Instr.wrCounterLo 3 ≠ .cmdClear ∧ Instr.cmdStart ≠ .cmdClear ∧ (∀ d e, Instr.wrCounterLo 3 ≠ .wrStatus d e) ∧
    Instr.wrStatus true true ≠ .cmdClear := by decide

/-- WR_STATUS and, in BUSY, START; an ignored write of CODE_VALUE, a reserved command, and a START that arrives in BUSY. -/
theorem witness_OnlyStartAndClearChangeTheResultRegisters :
    (Instr.wrStatus true true = .cmdStart → marked.fsm = .busy) ∧ Instr.wrStatus true true ≠ .cmdClear ∧
    (Instr.cmdStart = .cmdStart → busyState.fsm = .busy) ∧ Instr.cmdStart ≠ .cmdClear ∧
    marked.phase = .ready ∧ busyState.phase = .ready ∧
    [writeAt 0x7C 123456, writeAt 0x00 3, writeAt 0x00 1].all (fun a => a.wellFormed &&
      decide (decode a.word = .instr .cmdStart → busyState.fsm = .busy) && decide (decode a.word ≠ .instr .cmdClear)) = true := by
  decide

/-- An instruction that is neither a command nor WR_STATUS, in a state in which DONE and ERR are kept; WR_STATUS; an ignored
write, a read of CTRL and a reserved read. -/
theorem witness_OnlyCommandsAndStatusWritesChangeStatus : Instr.wrConfig 3 ≠ .cmdStart ∧ Instr.wrConfig 3 ≠ .cmdClear ∧
    (∀ d e, Instr.wrConfig 3 ≠ .wrStatus d e) ∧ answers (exec (.wrConfig 3) marked) (fun t => t.done && t.err) = true ∧
    Instr.wrStatus false true ≠ .cmdStart ∧ marked.phase = .ready ∧
    [writeAt 0x60 1, readAt 0x00, readAt 0xFC].all (fun a => a.wellFormed &&
      decide (a.write = true → a.offset ≠ 0x00#8 ∧ a.offset ≠ 0x04#8)) = true := by
  decide

/-- A read of STATUS, with two different key buffers. -/
theorem witness_TheKeyBufferIsNotObservable : ∃ s' t' : State,
    step { marked with host := [.access (readAt 0x20)] } = .next s' ∧
    step { marked with host := [.access (readAt 0x20)], keybuf := bufferOf rfcKey } = .next t' ∧ s'.keybuf ≠ t'.keybuf :=
  ⟨_, _, rfl, rfl, by decide⟩

theorem witness_ScheduleFollowsTheRecurrence : 15 < 16 ∧ 16 ≤ 16 ∧ 16 ≤ 79 ∧ 79 ≤ 79 := by decide

/-- The two lengths the engine pads, and the empty message. -/
theorem witness_PaddingIsTheSmallestThatFits : ([] : List Byte).length < 2 ^ 61 ∧ (zeros 72).length = 72 ∧
    (zeros 84).length = 84 ∧ (zeros 84).length < 2 ^ 61 := by decide

theorem witness_HmacEqualsTheRfcFormula : ([] : List Byte).length ≤ 64 ∧ (zeros 64).length ≤ 64 ∧ (be8 7).length = 8 := by decide

theorem witness_TrailingZeroKeyBytesDoNotMatter : rfcKey.length ≤ 64 ∧ (zeros 64).length ≤ 64 ∧ rfcKey.length + 44 ≤ 64 ∧
    rfcKey.length ≤ 20 := by decide

theorem witness_CodeBufferSpellsTheCode : 1 ≤ 1 ∧ 1 ≤ 9 ∧ 9 ≤ 9 := by decide

/-- The block while it computes is a legal state, and its next step is COMPLETE. -/
theorem witness_EveryStepKeepsTheInvariant : busyState.Inv ∧ ∃ t, step busyState = .next t :=
  ⟨fun _ =>
    { noError := fun _ => rfl
      error := fun h => nomatch h
      idle := fun h => nomatch h
      busy := fun _ => ⟨⟨rfl, by decide, by decide⟩, rfl, ⟨rfl, rfl, rfl, rfl, rfl, rfl⟩⟩
      noResult := fun _ => ⟨rfl, rfl, rfl, rfl, rfl, rfl⟩
      result := fun h => absurd rfl h
      done := fun h => nomatch h
      inReset := fun h => nomatch h },
    _, rfl⟩

/-- A WAIT pending while BUSY, with two turns of each kind fixed. -/
theorem witness_WaitEndsWithDone : ∃ s : State, s.phase = .ready ∧ s.fsm = .busy ∧
    s.host = .poll 0x04#8 0x1 0 :: expandLine .readCode ∧ ∀ t ∈ s.turns, t = .host ∨ t = .engine :=
  ⟨{ busyState with host := expandLine .wait ++ expandLine .readCode, turns := [.host, .host, .engine, .engine] },
    rfl, rfl, rfl, by decide⟩

/-- A 5-byte key while BUSY with the HOST's turns fixed, and a 64-byte key in IDLE with no turn fixed. -/
theorem witness_LoadKeyLoadsTheKey :
    (∃ s : State, s.phase = .ready ∧ s.fsm = .busy ∧
      s.host = expandLine (.loadKey [0x31, 0x32, 0x33, 0x34, 0x35]) ++ expandLine .cmdStart ∧
      s.turns = List.replicate ((5 + 3) / 4 + 1) .host ++ [.engine]) ∧
    (∃ s : State, s.phase = .ready ∧ s.fsm = .idle ∧ s.turns = [] ∧ (zeros 64).length ≤ 64 ∧
      s.host = expandLine (.loadKey (zeros 64)) ++ []) :=
  ⟨⟨({ busyState with turns := [.host, .host, .host, .engine] } : State).withProgram
      [.loadKey [0x31, 0x32, 0x33, 0x34, 0x35], .cmdStart], rfl, rfl, by decide, rfl⟩,
    ⟨State.reset.withProgram [.loadKey (zeros 64)], rfl, rfl, rfl, by decide, by decide⟩⟩

/-- A POLL of CODE_VALUE while BUSY in a HOST turn, and a POLL of the last offset in IDLE with no turn fixed. -/
theorem witness_APollRepeatsItsReadUntilTheValueAppears :
    (∃ s : State, s.phase = .ready ∧ s.fsm = .busy ∧ s.turns = .host :: [.engine] ∧
      s.host = .poll 0x7C#8 0xFF 1 :: [] ∧ (0x7C#8).toNat % 4 = 0) ∧
    (∃ s : State, s.phase = .ready ∧ s.fsm = .idle ∧ s.turns = [] ∧
      s.host = .poll 0xFC#8 0xFF 1 :: [] ∧ (0xFC#8).toNat % 4 = 0) :=
  ⟨⟨{ busyState with host := [.poll 0x7C 0xFF 1], turns := [.host, .engine] }, rfl, rfl, rfl, rfl, by decide⟩,
    ⟨{ marked with host := [.poll 0xFC 0xFF 1] }, rfl, rfl, rfl, rfl, by decide⟩⟩

/-- The RFC key loaded and START pending, with the engine's turn after the HOST's. -/
theorem witness_StartThenCompleteGivesTheHotpCode : ∃ s : State, s.phase = .ready ∧ s.StartReady ∧
    s.host = expandLine .cmdStart ++ expandLine .readCode ∧ s.turns = .host :: .engine :: [.host] :=
  ⟨{ loaded with host := expandLine .cmdStart ++ expandLine .readCode, turns := [.host, .engine, .host] },
    rfl, ⟨rfl, by decide⟩, rfl, rfl⟩

end Sys2Proof.Tests
end

section
/-! The window at BASE: which offset a physical address has (R12, R40, R42). -/

namespace Sys2Proof.Proofs

open Sys2Proof.Machine

theorem windowOffset_base_add {o : Nat} (ho : o < 256) :
    windowOffset (Config.base + o) = some (BitVec.ofNat 8 o) := by
  have hin : Config.base ≤ Config.base + o ∧ Config.base + o ≤ Config.base + 0xFF := by omega
  rw [windowOffset, if_pos hin, Nat.add_sub_cancel_left]

theorem windowOffset_outside {addr : Nat} (h : addr < Config.base ∨ Config.base + 0xFF < addr) :
    windowOffset addr = none :=
  if_neg (by omega)

/-- A physical access whose address has a window offset is the window access there (R12, R40). -/
theorem performBus_inside {b : BusAccess} {off : BitVec 8} (h : windowOffset b.addr = some off) (s : State) :
    performBus b s = performAccess (busAccessAt b off) s := by
  simp [performBus, h]

/-- A physical access without a window offset is refused by name (R42, log 5). -/
theorem performBus_outside {b : BusAccess} (h : windowOffset b.addr = none) (s : State) :
    performBus b s = .refused (.outsideWindow b.addr) := by
  simp [performBus, h]

/-- Settles O11: `windowOffset` is `some` exactly on the 256 addresses from BASE on. -/
theorem theWindowIsAtBase : Obligations.TheWindowIsAtBase := by
  unfold Obligations.TheWindowIsAtBase
  refine ⟨Nat.mul_mod_right 0x100 Config.basePage, fun w size o v s ho => ?_, fun b s hout => ?_⟩
  · exact performBus_inside (windowOffset_base_add ho) s
  · exact performBus_outside (windowOffset_outside hout) s

end Sys2Proof.Proofs
end

section
/-! The engine's four compressions are SHA-1 over the two padded messages of HMAC (R104, R105, R112-R116). -/

namespace Sys2Proof.Proofs

open Sys2Proof.Machine Sys2Proof.Laws

theorem length_keyBlock {key : List Byte} (hk : key.length ≤ 64) : (keyBlock key).length = 64 := by
  simp only [keyBlock, List.length_append, length_zeros]
  omega

theorem length_innerPadBlock {key : List Byte} (hk : key.length ≤ 64) : (innerPadBlock key).length = 64 := by
  rw [innerPadBlock, List.length_map, length_keyBlock hk]

theorem length_outerPadBlock {key : List Byte} (hk : key.length ≤ 64) : (outerPadBlock key).length = 64 := by
  rw [outerPadBlock, List.length_map, length_keyBlock hk]

theorem length_innerHash (key msg : List Byte) : (innerHash key msg).length = 20 := length_serialise _

theorem length_hmacSha1 (key msg : List Byte) : (hmacSha1 key msg).length = 20 := length_serialise _

/-- A message whose padding fills two blocks takes two compressions (R105). -/
theorem sha1_of_two_blocks {m b₁ b₂ : List Byte} (hpad : sha1Pad m = b₁ ++ b₂) (h₁ : b₁.length = 64)
    (h₂ : b₂.length = 64) : sha1 m = serialise (compress (compress sha1IV b₁) b₂) := by
  have hsplit : splitBlocks ((b₁ ++ b₂).length / 64) (b₁ ++ b₂) = [b₁, b₂] := by
    simp [splitBlocks, h₁, h₂, List.take_of_length_le]
  rw [sha1, hpad, hsplit]
  rfl

/-- The padding of a key block and an 8-byte message ends in IB2 (R112). -/
theorem sha1Pad_innerSecondBlock {b msg : List Byte} (hb : b.length = 64) (hm : msg.length = 8) :
    sha1Pad (b ++ msg) = b ++ innerSecondBlock msg := by
  simp [sha1Pad, innerSecondBlock, padZeros, hb, hm]

/-- The padding of a key block and a digest ends in OB2 (R114). -/
theorem sha1Pad_outerSecondBlock {b inner : List Byte} (hb : b.length = 64) (hi : inner.length = 20) :
    sha1Pad (b ++ inner) = b ++ outerSecondBlock inner := by
  simp [sha1Pad, outerSecondBlock, padZeros, hb, hi]

/-- INNER is SHA1(IPB || M) (R113). -/
theorem innerHash_eq_sha1 {key msg : List Byte} (hk : key.length ≤ 64) (hm : msg.length = 8) :
    innerHash key msg = sha1 (innerPadBlock key ++ msg) := by
  have hb := length_innerPadBlock hk
  exact (sha1_of_two_blocks (sha1Pad_innerSecondBlock hb hm) hb (by simp [innerSecondBlock, hm])).symm

/-- The digest is SHA1(OPB || SHA1(IPB || M)) (R116). -/
theorem hmacSha1_eq_sha1 {key msg : List Byte} (hk : key.length ≤ 64) (hm : msg.length = 8) :
    hmacSha1 key msg = sha1 (outerPadBlock key ++ sha1 (innerPadBlock key ++ msg)) := by
  have hb := length_outerPadBlock hk
  have hi := length_innerHash key msg
  rw [← innerHash_eq_sha1 hk hm]
  exact (sha1_of_two_blocks (sha1Pad_outerSecondBlock hb hi) hb (by simp [outerSecondBlock, hi])).symm

end Sys2Proof.Proofs
end

section
/-! Truncation as arithmetic on bytes, and the code buffer as a decimal numeral (R117-R126). -/

namespace Sys2Proof.Proofs

open Sys2Proof.Machine Sys2Proof.Laws

theorem toNat_truncOffset (d : List Byte) : (truncOffset d).toNat = (byteAt d 19).toNat % 16 := by
  have hmask : (byteAt d 19 &&& 0x0F).toNat = (byteAt d 19).toNat % 16 := Nat.and_two_pow_sub_one_eq_mod _ 4
  rw [truncOffset, BitVec.toNat_setWidth, hmask, Nat.mod_mod]

/-- Four byte fields that do not overlap: their OR is their sum. -/
theorem or_shifted_bytes {a b c e : Nat} (hb : b < 256) (hc : c < 256) (he : e < 256) :
    a <<< 24 ||| b <<< 16 ||| c <<< 8 ||| e = a * 2 ^ 24 + b * 2 ^ 16 + c * 2 ^ 8 + e := by
  have h₁ : a <<< 24 ||| b <<< 16 = (a * 2 ^ 8 + b) <<< 16 := by
    rw [← Nat.shiftLeft_add_eq_or_of_lt (by simp only [Nat.shiftLeft_eq]; omega)]
    simp only [Nat.shiftLeft_eq]; omega
  have h₂ : (a * 2 ^ 8 + b) <<< 16 ||| c <<< 8 = (a * 2 ^ 16 + b * 2 ^ 8 + c) <<< 8 := by
    rw [← Nat.shiftLeft_add_eq_or_of_lt (by simp only [Nat.shiftLeft_eq]; omega)]
    simp only [Nat.shiftLeft_eq]; omega
  rw [h₁, h₂, ← Nat.shiftLeft_add_eq_or_of_lt he, Nat.shiftLeft_eq]
  omega

@[simp] theorem toNat_zext32_byte (b : Byte) : (zext32 b).toNat = b.toNat := by
  have := b.isLt
  rw [zext32, BitVec.toNat_setWidth, Nat.mod_eq_of_lt (by omega)]

theorem toNat_zext32_byte_shiftLeft {b : Byte} {n : Nat} (h : b.toNat * 2 ^ n < 2 ^ 32) :
    (zext32 b <<< n).toNat = b.toNat <<< n := by
  rw [BitVec.toNat_shiftLeft, toNat_zext32_byte, Nat.shiftLeft_eq, Nat.mod_eq_of_lt h]

/-- TRUNC31 as the big-endian number of four bytes, the first without its bit 7 (R118, R119). -/
theorem toNat_trunc31 (d : List Byte) (off : Nat) :
    (trunc31 d off).toNat = (byteAt d off).toNat % 128 * 2 ^ 24 + (byteAt d (off + 1)).toNat * 2 ^ 16 +
      (byteAt d (off + 2)).toNat * 2 ^ 8 + (byteAt d (off + 3)).toNat := by
  have hmask : (byteAt d off &&& 0x7F).toNat = (byteAt d off).toNat % 128 :=
    Nat.and_two_pow_sub_one_eq_mod _ 7
  have h₁ := (byteAt d (off + 1)).isLt
  have h₂ := (byteAt d (off + 2)).isLt
  have h₃ := (byteAt d (off + 3)).isLt
  rw [trunc31, BitVec.toNat_setWidth, BitVec.toNat_or, BitVec.toNat_or, BitVec.toNat_or,
    toNat_zext32_byte_shiftLeft (by omega), toNat_zext32_byte_shiftLeft (by omega),
    toNat_zext32_byte_shiftLeft (by omega), toNat_zext32_byte, hmask, or_shifted_bytes h₁ h₂ h₃]
  omega

theorem codeValueOf_lt (bin d : Nat) : codeValueOf bin d < 10 ^ d := Nat.mod_lt _ (by positivity)

/-- The value of d ≤ 9 digits fits CODE_VALUE's field (R31, R121). -/
theorem codeValueOf_lt_two_pow_30 (bin : Nat) {d : Nat} (hd : d ≤ 9) : codeValueOf bin d < 2 ^ 30 :=
  calc codeValueOf bin d < 10 ^ d := codeValueOf_lt bin d
    _ ≤ 10 ^ 9 := Nat.pow_le_pow_right (by decide) hd
    _ < 2 ^ 30 := by decide

theorem length_codeBuf (val d : Nat) : (codeBuf val d).length = 12 := by simp [codeBuf]

theorem digitAt_lt_ten (val d i : Nat) : digitAt val d i < 10 := Nat.mod_lt _ (by decide)

theorem toNat_charAt (val d i : Nat) : (charAt val d i).toNat = 0x30 + digitAt val d i := by
  have := digitAt_lt_ten val d i
  rw [charAt, BitVec.toNat_ofNat]
  omega

theorem isDigitChar_charAt (val d i : Nat) : isDigitChar (charAt val d i) = true := by
  have := digitAt_lt_ten val d i
  rw [isDigitChar, toNat_charAt, decide_eq_true_iff]
  omega

theorem take_codeBuf (val : Nat) {d : Nat} (hd : d ≤ 12) :
    (codeBuf val d).take d = (List.range d).map (charAt val d) := by
  rw [codeBuf, ← List.map_take, List.take_range, min_eq_left hd]
  exact List.map_congr_left fun i hi => if_pos (List.mem_range.1 hi)

theorem eq_zero_of_mem_drop_codeBuf {val d : Nat} {c : Byte} (hc : c ∈ (codeBuf val d).drop d) : c = 0 := by
  obtain ⟨i, hi, rfl⟩ := List.getElem_of_mem hc
  simp [codeBuf]

theorem decimalValue_append_singleton (cs : List Byte) (c : Byte) :
    decimalValue (cs ++ [c]) = 10 * decimalValue cs + (c.toNat - 0x30) := by
  simp [decimalValue]

/-- The first n of d characters spell the value without its last d - n digits (R122, R123). -/
theorem decimalValue_first_chars {val d : Nat} (hval : val < 10 ^ d) {n : Nat} (hn : n ≤ d) :
    decimalValue ((List.range n).map (charAt val d)) = val / 10 ^ (d - n) := by
  induction n with
  | zero => exact (Nat.div_eq_of_lt hval).symm
  | succ n ih =>
    have hexp : d - n = d - 1 - n + 1 := by omega
    have hdiv : val / 10 ^ (d - n) = val / 10 ^ (d - 1 - n) / 10 := by
      rw [hexp, Nat.pow_succ, Nat.div_div_eq_div_mul]
    have hgoal : d - (n + 1) = d - 1 - n := by omega
    rw [List.range_succ, List.map_append, List.map_singleton, decimalValue_append_singleton, ih (by omega),
      toNat_charAt, digitAt, hdiv, hgoal]
    omega

/-- The code buffer spells a value of at most d digits (R124, R125). -/
theorem spells_codeBuf {val d : Nat} (hd : d ≤ 12) (hval : val < 10 ^ d) : Spells (codeBuf val d) val d where
  length := length_codeBuf val d
  digits c hc := by
    rw [take_codeBuf val hd] at hc
    obtain ⟨i, -, rfl⟩ := List.mem_map.1 hc
    exact isDigitChar_charAt val d i
  value := by
    rw [take_codeBuf val hd, decimalValue_first_chars hval le_rfl, Nat.sub_self, Nat.pow_zero, Nat.div_one]
  rest _ hc := eq_zero_of_mem_drop_codeBuf hc

end Sys2Proof.Proofs
end

section
/-! What COMPLETE leaves in the result registers, read as byte arrays and numbers (R28, R31, R32, R92). -/

namespace Sys2Proof.Proofs

open Sys2Proof.Machine Sys2Proof.Laws

/-- The word after the first four bytes is the word of the bytes after them (R10). -/
theorem wordBE_cons_succ (a b c e : Byte) (l : List Byte) (j : Nat) :
    wordBE (a :: b :: c :: e :: l) (j + 1) = wordBE l j := by
  simp [wordBE, byteAt, Nat.mul_add, Nat.add_right_comm]

/-- Packing a byte array into words and unpacking them gives it back (R43). -/
theorem flatMap_be4_wordBE {n : Nat} {l : List Byte} (h : l.length = 4 * n) :
    ((List.range n).map (wordBE l)).flatMap be4 = l := by
  induction n generalizing l with
  | zero => simpa using h
  | succ n ih =>
    match l, h with
    | a :: b :: c :: e :: l, h =>
      have hl : l.length = 4 * n := by simp only [List.length_cons] at h; omega
      have hhead : be4 (wordBE (a :: b :: c :: e :: l) 0) = [a, b, c, e] := be4_append a b c e
      have htail : wordBE (a :: b :: c :: e :: l) ∘ Nat.succ = wordBE l := funext (wordBE_cons_succ a b c e l)
      rw [List.range_succ_eq_map, List.map_cons, List.map_map, List.flatMap_cons, hhead, htail, ih hl]
      rfl

theorem digestBytes_complete (s : State) : (complete s).digestBytes = s.wk.result.digest :=
  flatMap_be4_wordBE (n := 5) (length_hmacSha1 _ _)

theorem codeBytes_complete (s : State) : (complete s).codeBytes = s.wk.result.buf :=
  flatMap_be4_wordBE (n := 3) (length_codeBuf _ _)

theorem toNat_codeValue_complete {s : State} (hd : s.wk.digits.toNat ≤ 9) :
    (complete s).codeValue.toNat = s.wk.result.val := by
  rw [complete_codeValue, BitVec.toNat_ofNat]
  exact Nat.mod_eq_of_lt (codeValueOf_lt_two_pow_30 _ hd)

theorem spells_complete {s : State} (hd : s.wk.digits.toNat ≤ 9) :
    Spells (complete s).codeBytes (complete s).codeValue.toNat s.wk.digits.toNat := by
  rw [codeBytes_complete, toNat_codeValue_complete hd]
  exact spells_codeBuf (by omega) (codeValueOf_lt _ _)

end Sys2Proof.Proofs
end

section
/-! Named turns, and the run of START and COMPLETE (R45, R89, R92). -/

namespace Sys2Proof.Proofs

open Sys2Proof.Machine Sys2Proof.Laws

theorem runFor_succ_of_step {s t : State} (h : step s = .next t) (n : Nat) : runFor (n + 1) s = runFor n t := by
  simp [runFor, h]

theorem step_of_host_turn {s : State} {op : HostOp} {rest : List HostOp} {ts : List Turn}
    (hts : s.turns = .host :: ts) (hh : s.host = op :: rest) :
    step s = performHostOp op { s with host := rest, turns := ts } := by
  simp [step, hts, takeTurn, hostTurn, hh]

theorem step_of_engine_turn_busy {s : State} {ts : List Turn} (hts : s.turns = .engine :: ts)
    (hp : s.phase = .ready) (hf : s.fsm = .busy) : step s = .next (complete { s with turns := ts }) := by
  simp [step, hts, takeTurn, engineTurn, hp, hf]

/-- The access of the START line is START (R57, R61, R89). -/
theorem performAccess_cmdStart {s : State} (hp : s.phase = .ready) :
    performAccess (writeAt 0x00#8 1) s = .next (start s) := by
  have hw : (writeAt 0x00#8 1).wellFormed = true := by decide
  have hd : decode (writeAt 0x00#8 1).word = .instr .cmdStart := by decide
  rw [performAccess_ready hp hw, hd]
  rfl

/-- What an accepted START makes of a state: status and results cleared, the snapshot taken, BUSY (R89). -/
def acceptStart (s : State) : State := { startClear s with wk := s.snapshot, fsm := .busy }

theorem start_of_startReady {s : State} (h : s.StartReady) : start s = acceptStart s := by
  obtain ⟨hidle, hchecks⟩ := h
  simp [start, acceptStart, hidle, (startError?_none s).2 hchecks]

/-- A HOST turn with an acceptable START line pending (R62, R89). -/
theorem step_of_start_line {s : State} {rest : List HostOp} {ts : List Turn} (hp : s.phase = .ready)
    (hs : s.StartReady) (hh : s.host = expandLine .cmdStart ++ rest) (hts : s.turns = .host :: ts) :
    step s = .next (acceptStart { s with host := rest, turns := ts }) :=
  calc step s
    _ = performAccess (writeAt 0x00#8 1) { s with host := rest, turns := ts } := step_of_host_turn hts hh
    _ = .next (start { s with host := rest, turns := ts }) := performAccess_cmdStart hp
    _ = .next (acceptStart { s with host := rest, turns := ts }) := congrArg _ (start_of_startReady hs)

/-- START and the ENGINE turn after it: COMPLETE of the state that START leaves (R89, R92). -/
theorem runFor_start_complete {s : State} {rest : List HostOp} {ts : List Turn} (hp : s.phase = .ready)
    (hs : s.StartReady) (hh : s.host = expandLine .cmdStart ++ rest) (hts : s.turns = .host :: .engine :: ts) :
    runFor 2 s = .next (complete (acceptStart { s with host := rest, turns := ts })) := by
  have hstart := step_of_start_line hp hs hh hts
  have hcomplete : step (acceptStart { s with host := rest, turns := .engine :: ts }) =
      .next (complete (acceptStart { s with host := rest, turns := ts })) :=
    step_of_engine_turn_busy (s := acceptStart { s with host := rest, turns := .engine :: ts }) rfl hp rfl
  rw [runFor_succ_of_step hstart 1, runFor_succ_of_step hcomplete 0, runFor]

/-- Settles O54: the run ends in COMPLETE of the snapshot, whose digest is the RFC formula, whose value is the truncation of that
digest mod 10^d, and whose buffer spells the value. -/
theorem startThenCompleteGivesTheHotpCode : Obligations.StartThenCompleteGivesTheHotpCode := by
  unfold Obligations.StartThenCompleteGivesTheHotpCode
  intro s rest ts hp hs hh hts
  have ⟨_, hlen, _, hd⟩ := hs
  have hkey : s.key.length ≤ 64 := by simp [State.key, hlen]
  refine ⟨_, hmacSha1 s.key (be8 s.counter), runFor_start_complete hp hs hh hts, rfl, rfl, rfl, rfl, rfl,
    hmacSha1_eq_sha1 hkey (length_be8 _), digestBytes_complete _, ?_, spells_complete hd⟩
  rw [toNat_codeValue_complete hd, ← toNat_truncOffset, ← toNat_trunc31]
  rfl

end Sys2Proof.Proofs
end

section
/-! What an instruction can do to the status, the results and the computation (R55, R132). -/

namespace Sys2Proof.Proofs

open Sys2Proof.Machine Sys2Proof.Laws

/-- The same result is held and the same computation runs: the result registers, `fsm` and `wk` agree. -/
structure SameComputation (s t : State) : Prop extends SameResult s t where
  fsm : t.fsm = s.fsm
  wk  : t.wk = s.wk

/-- The states differ in nothing but the input registers, the interrupt enables, KEYBUF and the HOST's side. -/
structure OnlyInputsDiffer (s t : State) : Prop extends SameComputation s t where
  done    : t.done = s.done
  err     : t.err = s.err
  errCode : t.errCode = s.errCode
  phase   : t.phase = s.phase

theorem sameComputation_setError (c : ErrorCode) (s : State) : SameComputation s (setError c s) :=
  ⟨⟨rfl, rfl, rfl, rfl, rfl, rfl⟩, rfl, rfl⟩

theorem sameComputation_clearStatus (d e : Bool) (s : State) : SameComputation s (clearStatus d e s) := by
  rw [clearStatus_eq]
  exact ⟨⟨rfl, rfl, rfl, rfl, rfl, rfl⟩, rfl, rfl⟩

theorem clearStatus_done (d e : Bool) (s : State) : (clearStatus d e s).done = if d then false else s.done := by
  rw [clearStatus_eq]

theorem clearStatus_phase (d e : Bool) (s : State) : (clearStatus d e s).phase = s.phase := by
  rw [clearStatus_eq]

theorem done_of_done_clearStatus {d e : Bool} {s : State} (h : (clearStatus d e s).done = true) : s.done = true := by
  rw [clearStatus_done] at h
  cases d with
  | false => exact h
  | true => exact nomatch h

theorem onlyInputsDiffer_refl (s : State) : OnlyInputsDiffer s s :=
  ⟨⟨⟨rfl, rfl, rfl, rfl, rfl, rfl⟩, rfl, rfl⟩, rfl, rfl, rfl, rfl⟩

theorem onlyInputsDiffer_respond (v : Word) (s : State) : OnlyInputsDiffer s (respond v s) :=
  ⟨⟨⟨rfl, rfl, rfl, rfl, rfl, rfl⟩, rfl, rfl⟩, rfl, rfl, rfl, rfl⟩

/-- The instructions that can change the status or the results: START, CLEAR and WR_STATUS. -/
def touchesStatus : Instr → Bool
  | .cmdStart | .cmdClear | .wrStatus _ _ => true
  | _ => false

/-- Every other instruction stores into an input register, returns a value, or does nothing. -/
theorem exec_onlyInputsDiffer {i : Instr} {s t : State} (hi : touchesStatus i = false) (h : exec i s = .next t) :
    OnlyInputsDiffer s t := by
  cases i with
  | cmdStart | cmdClear | wrStatus => cases hi
  | _ => cases h; exact ⟨⟨⟨rfl, rfl, rfl, rfl, rfl, rfl⟩, rfl, rfl⟩, rfl, rfl, rfl, rfl⟩

/-- Everything an instruction can do: START, CLEAR, the W1C write of STATUS, or a change of inputs only. -/
theorem exec_cases {i : Instr} {s t : State} (h : exec i s = .next t) :
    (i = .cmdStart ∧ t = start s) ∨ (i = .cmdClear ∧ t = applyReset s) ∨
      (∃ d e, i = .wrStatus d e ∧ t = clearStatus d e s) ∨ OnlyInputsDiffer s t := by
  cases hi : touchesStatus i with
  | false => exact .inr (.inr (.inr (exec_onlyInputsDiffer hi h)))
  | true =>
    cases i with
    | cmdStart => cases h; exact .inl ⟨rfl, rfl⟩
    | cmdClear => cases h; exact .inr (.inl ⟨rfl, rfl⟩)
    | wrStatus d e => cases h; exact .inr (.inr (.inl ⟨d, e, rfl, rfl⟩))
    | _ => cases hi

end Sys2Proof.Proofs
end

section
/-! What a turn that ends in a next state has done, one inversion lemma for each layer around the block (R7, R41, R55, R62). -/

namespace Sys2Proof.Proofs

open Sys2Proof.Machine Sys2Proof.Laws

/-- An access that ends in a next state met a ready block (R142, R145) and performed the rule its word selects. -/
theorem performAccess_eq_next {a : Access} {s t : State} (h : performAccess a s = .next t) :
    s.phase = .ready ∧ performDecoded (decode a.word) s = .next t := by
  rcases performAccess_cases a s with ⟨-, h'⟩ | ⟨-, h'⟩ | ⟨-, -, h'⟩ | ⟨hp, -, h'⟩
  · cases h'.symm.trans h
  · cases h'.symm.trans h
  · cases h'.symm.trans h
  · exact ⟨hp, h'.symm.trans h⟩

/-- A physical access that ends in a next state is an access to the window (R42). -/
theorem performBus_eq_next {b : BusAccess} {s t : State} (h : performBus b s = .next t) :
    ∃ off, windowOffset b.addr = some off ∧ performAccess (busAccessAt b off) s = .next t := by
  cases hw : windowOffset b.addr with
  | none => cases (performBus_outside hw s).symm.trans h
  | some off => exact ⟨off, rfl, (performBus_inside hw s).symm.trans h⟩

/-- A turn of POLL that ends in a next state: one read, and the POLL stays pending or not (R62). -/
theorem performPoll_eq_next {off : BitVec 8} {mask val : Word} {s t : State} (h : performPoll off mask val s = .next t) :
    ∃ u, performAccess (readAt off) s = .next u ∧
      t = if pollMet mask val u.reads then u else { u with host := .poll off mask val :: u.host } := by
  unfold performPoll at h
  split at h
  case h_1 u hu => exact ⟨u, hu, by split_ifs at h ⊢ <;> simpa using h.symm⟩
  case h_2 => cases h
  case h_3 => cases h

/-- An ENGINE turn that ends in a next state is COMPLETE in a ready BUSY block, or no step (R92). -/
theorem engineTurn_eq_next {s t : State} (h : engineTurn s = .next t) :
    (s.phase = .ready ∧ s.fsm = .busy ∧ t = complete s) ∨ t = s := by
  unfold engineTurn at h
  split at h
  case h_1 => cases h
  case h_2 => cases h; exact .inr rfl
  case h_3 hp =>
    split at h
    case h_1 hf => cases h; exact .inl ⟨hp, hf, rfl⟩
    case h_2 => cases h; exact .inr rfl

/-- Every step is one agent's turn, with that turn taken off the list (R7). -/
theorem step_eq_takeTurn (s : State) : ∃ tu ts, step s = takeTurn tu { s with turns := ts } := by
  cases hts : s.turns with
  | nil =>
    have hstep : step s = takeTurn (defaultTurn s) s := by simp [step, hts]
    exact ⟨defaultTurn s, s.turns, hstep⟩
  | cons tu ts => exact ⟨tu, ts, by simp [step, hts]⟩

end Sys2Proof.Proofs
end

section
/-! Which operations of the block keep it legal (R19, R21, R33, R36, R125, R142). -/

namespace Sys2Proof.Proofs

open Sys2Proof.Machine Sys2Proof.Laws

/-! ## The error code (R21, R128) -/

/-- ERR_CODE is 0 exactly when ERR = 0, and else one of 1..4 (R21). -/
def ErrorLegal (s : State) : Prop :=
  (s.err = false → s.errCode = 0) ∧ (s.err = true → 1 ≤ s.errCode.toNat ∧ s.errCode.toNat ≤ 4)

theorem errorLegal_of_legal {s : State} (h : s.Legal) : ErrorLegal s := ⟨h.noError, h.error⟩

theorem errorLegal_of_cleared {s : State} (he : s.err = false) (hc : s.errCode = 0) : ErrorLegal s :=
  ⟨fun _ => hc, fun h => nomatch he.symm.trans h⟩

theorem errorCode_bits_range (c : ErrorCode) : 1 ≤ c.bits.toNat ∧ c.bits.toNat ≤ 4 := by cases c <;> decide

theorem errorLegal_setError (c : ErrorCode) (s : State) : ErrorLegal (setError c s) :=
  ⟨Bool.noConfusion, fun _ => errorCode_bits_range c⟩

theorem errorLegal_clearStatus (d e : Bool) {s : State} (h : ErrorLegal s) : ErrorLegal (clearStatus d e s) := by
  rw [clearStatus_eq]
  cases e with
  | false => exact h
  | true => exact errorLegal_of_cleared rfl rfl

/-! ## The result registers (R28-R33, R125) -/

theorem noResult_of_sameResult {s t : State} (h : SameResult s t) (hs : s.NoResult) : t.NoResult where
  digest := h.digest.trans hs.digest
  offset := h.offset.trans hs.offset
  trunc := h.trunc.trans hs.trunc
  codeValue := h.codeValue.trans hs.codeValue
  codeAscii := h.codeAscii.trans hs.codeAscii
  codeDigits := h.codeDigits.trans hs.codeDigits

theorem resultConsistent_of_sameResult {s t : State} (h : SameResult s t) (hs : s.ResultConsistent) :
    t.ResultConsistent := by
  obtain ⟨hdigest, hoffset, htrunc, hvalue, hascii, hdigits⟩ := h
  have hdb : t.digestBytes = s.digestBytes := by simp only [State.digestBytes, hdigest]
  have hcb : t.codeBytes = s.codeBytes := by simp only [State.codeBytes, hascii]
  constructor
  case digits => rw [hdigits]; exact hs.digits
  case offset => rw [hoffset, hdigest]; exact hs.offset
  case trunc => rw [htrunc, hdb, hoffset]; exact hs.trunc
  case value => rw [hvalue, htrunc, hdigits]; exact hs.value
  case spells => rw [hcb, hvalue, hdigits]; exact hs.spells

/-- OFFSET is the low nibble of the last digest word (R117). -/
theorem zext32_truncOffset (d : List Byte) : zext32 (truncOffset d) = wordBE d 4 &&& 0xF := by
  have hmask : (wordBE d 4 &&& 0xF).toNat = (wordBE d 4).toNat % 16 := Nat.and_two_pow_sub_one_eq_mod _ 4
  have hlow : (wordBE d 4).toNat % 16 = (byteAt d 19).toNat % 16 := by
    change _ = (byteAt d (4 * 4 + 3)).toNat % 16
    rw [wordBE, BitVec.toNat_append, ← Nat.shiftLeft_add_eq_or_of_lt (BitVec.isLt _), Nat.shiftLeft_eq]
    omega
  apply BitVec.eq_of_toNat_eq
  rw [hmask, hlow, ← toNat_truncOffset, zext32, BitVec.toNat_setWidth]
  omega

/-- COMPLETE of a snapshot with a legal digit count leaves one consistent result (R92, R125). -/
theorem resultConsistent_complete {s : State} (h : 1 ≤ s.wk.digits.toNat ∧ s.wk.digits.toNat ≤ 9) :
    (complete s).ResultConsistent where
  digits := h
  offset := zext32_truncOffset _
  trunc := by rw [digestBytes_complete]; rfl
  value := toNat_codeValue_complete h.2
  spells := spells_complete h.2

/-! ## Legal states -/

/-- A state with the computation of a legal one is legal if its error code is and DONE has not been turned on. -/
theorem legal_of_sameComputation {s t : State} (h : SameComputation s t) (hs : s.Legal) (herr : ErrorLegal t)
    (hdone : t.done = true → s.done = true) (hreset : t.phase = .inReset → t = applyReset t) : t.Legal := by
  obtain ⟨hres, hfsm, hwk⟩ := h
  constructor
  case noError => exact herr.1
  case error => exact herr.2
  case idle => rw [hfsm, hwk]; exact hs.idle
  case busy =>
    intro hbusy
    obtain ⟨hlegal, hd, hno⟩ := hs.busy (hfsm.symm.trans hbusy)
    have hd' : t.done = false := Bool.eq_false_iff.2 fun ht => nomatch hd.symm.trans (hdone ht)
    exact ⟨hwk ▸ hlegal, hd', noResult_of_sameResult hres hno⟩
  case noResult =>
    rw [hres.codeDigits]
    exact fun hz => noResult_of_sameResult hres (hs.noResult hz)
  case result =>
    rw [hres.codeDigits]
    exact fun hnz => resultConsistent_of_sameResult hres (hs.result hnz)
  case done =>
    rw [hres.codeDigits]
    exact fun ht => hs.done (hdone ht)
  case inReset => exact hreset

/-- A state that holds no result and has DONE = 0 is legal if its error code and its snapshot are. -/
theorem legal_of_noResult {s : State} (hno : s.NoResult) (hdone : s.done = false) (herr : ErrorLegal s)
    (hidle : s.fsm = .idle → s.wk = .zero) (hbusy : s.fsm = .busy → s.wk.Legal)
    (hreset : s.phase = .inReset → s = applyReset s) : s.Legal where
  noError := herr.1
  error := herr.2
  idle := hidle
  busy hb := ⟨hbusy hb, hdone, hno⟩
  noResult _ := hno
  result hnz := absurd hno.codeDigits hnz
  done ht := nomatch hdone.symm.trans ht
  inReset := hreset

/-- In a ready block the clause on an asserted reset is empty (R142). -/
theorem eq_applyReset_of_ready {s : State} (hp : s.phase = .ready) : s.phase = .inReset → s = applyReset s :=
  fun h => nomatch hp.symm.trans h

theorem legal_applyReset {s : State} (hp : s.phase = .ready) : (applyReset s).Legal :=
  legal_of_noResult ⟨rfl, rfl, rfl, rfl, rfl, rfl⟩ rfl (errorLegal_of_cleared rfl rfl) (fun _ => rfl)
    (fun h => nomatch h) (eq_applyReset_of_ready hp)

theorem legal_assertReset (s : State) : (assertReset s).Legal :=
  legal_of_noResult ⟨rfl, rfl, rfl, rfl, rfl, rfl⟩ rfl (errorLegal_of_cleared rfl rfl) (fun _ => rfl)
    (fun h => nomatch h) (fun _ => rfl)

theorem legal_of_onlyInputsDiffer {s t : State} (h : OnlyInputsDiffer s t) (hp : s.phase = .ready) (hs : s.Legal) :
    t.Legal := by
  have herr : ErrorLegal t := by
    rw [ErrorLegal, h.err, h.errCode]
    exact errorLegal_of_legal hs
  exact legal_of_sameComputation h.toSameComputation hs herr (fun ht => h.done ▸ ht)
    (eq_applyReset_of_ready (h.phase.trans hp))

theorem legal_setError (c : ErrorCode) {s : State} (hp : s.phase = .ready) (hs : s.Legal) : (setError c s).Legal :=
  legal_of_sameComputation (sameComputation_setError c s) hs (errorLegal_setError c s) id (eq_applyReset_of_ready hp)

theorem legal_clearStatus (d e : Bool) {s : State} (hp : s.phase = .ready) (hs : s.Legal) :
    (clearStatus d e s).Legal :=
  legal_of_sameComputation (sameComputation_clearStatus d e s) hs
    (errorLegal_clearStatus d e (errorLegal_of_legal hs)) done_of_done_clearStatus
    (eq_applyReset_of_ready ((clearStatus_phase d e s).trans hp))

/-- START keeps the block legal, whether it is refused while BUSY, refused by a check, or accepted (R89). -/
theorem legal_start {s : State} (hp : s.phase = .ready) (hs : s.Legal) : (start s).Legal := by
  rcases start_cases s with ⟨-, h⟩ | ⟨hidle, c, -, h⟩ | ⟨-, hcheck, h⟩
  · rw [h]
    exact legal_setError .busy hp hs
  · have hwk : s.wk = .zero := hs.idle hidle
    rw [h]
    exact legal_of_noResult ⟨rfl, rfl, rfl, rfl, rfl, rfl⟩ rfl (errorLegal_setError c _) (fun _ => hwk)
      (fun hb => nomatch hidle.symm.trans hb) (eq_applyReset_of_ready hp)
  · rw [h]
    exact legal_of_noResult ⟨rfl, rfl, rfl, rfl, rfl, rfl⟩ rfl (errorLegal_of_cleared rfl rfl)
      (fun hi => nomatch hi) (fun _ => snapshot_legal hcheck) (eq_applyReset_of_ready hp)

theorem legal_exec {i : Instr} {s t : State} (hp : s.phase = .ready) (hs : s.Legal) (h : exec i s = .next t) :
    t.Legal := by
  rcases exec_cases h with ⟨-, rfl⟩ | ⟨-, rfl⟩ | ⟨d, e, -, rfl⟩ | hinputs
  · exact legal_start hp hs
  · exact legal_applyReset hp
  · exact legal_clearStatus d e hp hs
  · exact legal_of_onlyInputsDiffer hinputs hp hs

/-- COMPLETE of a legal snapshot: the result is consistent, its digit count is not 0, and the snapshot is erased (R92). -/
theorem legal_complete {s : State} (hp : s.phase = .ready) (hf : s.fsm = .busy) (hs : s.Legal) :
    (complete s).Legal := by
  obtain ⟨hwk, -, -⟩ := hs.busy hf
  have hdigits : s.wk.digits ≠ 0 := fun hz => absurd hwk.digits.1 (by simp [hz])
  exact {
    noError := hs.noError
    error := hs.error
    idle := fun _ => rfl
    busy := fun hb => nomatch hb
    noResult := fun hz => absurd hz hdigits
    result := fun _ => resultConsistent_complete hwk.digits
    done := fun _ => hdigits
    inReset := eq_applyReset_of_ready hp }

end Sys2Proof.Proofs
end

section
/-! Every step keeps the block legal: each agent's turn, with the turn lists and the HOST's operations around it (R7). -/

namespace Sys2Proof.Proofs

open Sys2Proof.Machine Sys2Proof.Laws

/-- The lists of turns and of HOST operations are no part of the invariant. -/
theorem inv_withAgents {s : State} (h : s.Inv) (hs : List HostOp) (ts : List Turn) :
    ({ s with host := hs, turns := ts } : State).Inv := fun hp =>
  have hl : s.Legal := h hp
  have herr : ErrorLegal s := errorLegal_of_legal hl
  legal_of_sameComputation (s := s) ⟨⟨rfl, rfl, rfl, rfl, rfl, rfl⟩, rfl, rfl⟩ hl herr id
    fun hr => congrArg (fun u : State => { u with host := hs, turns := ts }) (hl.inReset hr)

/-- The rule that a decoded transaction selects keeps a ready block legal (R55). -/
theorem legal_performDecoded {d : Decoded} {s t : State} (hp : s.phase = .ready) (hs : s.Legal)
    (h : performDecoded d s = .next t) : t.Legal := by
  cases d with
  | instr i => exact legal_exec hp hs h
  | rdReserved off =>
    cases h
    exact legal_of_onlyInputsDiffer (onlyInputsDiffer_respond 0 s) hp hs
  | wrIgnored off data =>
    cases h
    exact hs
  | cmdReserved cmd =>
    cases h
    exact legal_setError .cmd hp hs
  | rejected why => cases why; cases h

theorem inv_performAccess {a : Access} {s t : State} (hs : s.Inv) (h : performAccess a s = .next t) : t.Inv := by
  obtain ⟨hp, hd⟩ := performAccess_eq_next h
  exact fun _ => legal_performDecoded hp (hs (by simp [hp])) hd

theorem inv_performHostOp {op : HostOp} {s t : State} (hs : s.Inv) (h : performHostOp op s = .next t) : t.Inv := by
  cases op with
  | access a => exact inv_performAccess hs h
  | bus b =>
    obtain ⟨off, -, ha⟩ := performBus_eq_next h
    exact inv_performAccess hs ha
  | poll off mask val =>
    obtain ⟨u, ha, rfl⟩ := performPoll_eq_next h
    have hu := inv_performAccess hs ha
    split
    · exact hu
    · exact inv_withAgents hu _ u.turns

theorem inv_hostTurn {s t : State} (hs : s.Inv) (h : hostTurn s = .next t) : t.Inv := by
  unfold hostTurn at h
  split at h
  case h_1 => exact Host.Outcome.next.inj h ▸ hs
  case h_2 op rest _ => exact inv_performHostOp (inv_withAgents hs rest s.turns) h

theorem inv_engineTurn {s t : State} (hs : s.Inv) (h : engineTurn s = .next t) : t.Inv := by
  rcases engineTurn_eq_next h with ⟨hp, hf, rfl⟩ | rfl
  · exact fun _ => legal_complete hp hf (hs (by simp [hp]))
  · exact hs

theorem inv_releaseReset {s : State} (hs : s.Inv) : (releaseReset s).Inv := by
  unfold releaseReset
  split
  case h_1 hp =>
    have hl : s.Legal := hs (by simp [hp])
    have herr : ErrorLegal s := errorLegal_of_legal hl
    exact fun _ => legal_of_sameComputation (s := s) ⟨⟨rfl, rfl, rfl, rfl, rfl, rfl⟩, rfl, rfl⟩ hl herr id
      fun hr => nomatch hr
  case h_2 => exact hs
  case h_3 => exact hs

theorem inv_takeTurn {tu : Turn} {s t : State} (hs : s.Inv) (h : takeTurn tu s = .next t) : t.Inv := by
  cases tu with
  | host => exact inv_hostTurn hs h
  | engine => exact inv_engineTurn hs h
  | rstAssert => cases h; exact fun _ => legal_assertReset s
  | rstRelease => cases h; exact inv_releaseReset hs
  | powerUp => cases h; exact fun hp => absurd rfl hp

/-- Settles O50: a step is one agent's turn, and each turn keeps the invariant. -/
theorem everyStepKeepsTheInvariant : Obligations.EveryStepKeepsTheInvariant := by
  unfold Obligations.EveryStepKeepsTheInvariant
  intro s t hs h
  obtain ⟨tu, ts, hstep⟩ := step_eq_takeTurn s
  exact inv_takeTurn (inv_withAgents hs s.host ts) (hstep.symm.trans h)

/-- Settles O49: the reset state holds no result and has erased its snapshot. -/
theorem theResetStateIsLegal : Obligations.TheResetStateIsLegal :=
  have hl : State.reset.Legal := legal_applyReset (s := State.reset) rfl
  ⟨fun _ => hl, hl⟩

end Sys2Proof.Proofs
end

section
/-! START, CLEAR, COMPLETE and the irq level, as the registers show them (R37, R39, R89, R90, R92). -/

namespace Sys2Proof.Proofs

open Sys2Proof.Machine Sys2Proof.Laws

theorem statusWord_done (s : State) : s.statusWord.getLsbD 1 = s.done := by
  rw [State.statusWord, BitVec.getLsbD_append, BitVec.getLsbD_append]
  simp

theorem statusWord_err (s : State) : s.statusWord.getLsbD 2 = s.err := by
  rw [State.statusWord, BitVec.getLsbD_append, BitVec.getLsbD_append, BitVec.getLsbD_append]
  simp

theorem intEnWord_doneIe (s : State) : s.intEnWord.getLsbD 0 = s.doneIe := by
  rw [State.intEnWord, BitVec.getLsbD_append]
  simp

theorem intEnWord_errIe (s : State) : s.intEnWord.getLsbD 1 = s.errIe := by
  rw [State.intEnWord, BitVec.getLsbD_append, BitVec.getLsbD_append]
  simp

/-- Settles O25: bits 1 and 2 of STATUS and bits 0 and 1 of INT_EN are the four flags, and START and CLEAR clear DONE and ERR. -/
theorem interruptLevelFollowsStatusAndEnable : Obligations.InterruptLevelFollowsStatusAndEnable := by
  unfold Obligations.InterruptLevelFollowsStatusAndEnable
  intro s
  refine ⟨?_, fun a b => ⟨_, rfl, rfl⟩, fun hs => ⟨_, rfl, ?_⟩, ⟨_, rfl, rfl⟩⟩
  · rw [statusWord_done, statusWord_err, intEnWord_doneIe, intEnWord_errIe, State.irq]
  · rw [start_of_startReady hs]
    rfl

theorem getElem?_key {s : State} {j : Nat} (hj : j < 64) (hlen : j < s.keyLen.toNat) :
    s.key[j]? = some s.keybuf[j] := by
  simp [State.key, hlen, hj]

/-- Settles O27: an accepted START's snapshot key is the first LEN bytes of KEYBUF. -/
theorem acceptedStartTakesTheSnapshot : Obligations.AcceptedStartTakesTheSnapshot := by
  unfold Obligations.AcceptedStartTakesTheSnapshot
  intro s hs
  have ⟨_, hlen, _, _⟩ := hs
  have hexec : exec .cmdStart s = .next (acceptStart s) := congrArg Host.Outcome.next (start_of_startReady hs)
  exact ⟨s.key, by simp [State.key, hlen], fun j hj hjlen => getElem?_key hj hjlen, hexec⟩

/-- Settles O30: CLEAR is `applyReset`, whose value is the reset state. -/
theorem clearRestoresTheResetValues : Obligations.ClearRestoresTheResetValues := fun _ => rfl

/-- Settles O32: every clause is a field of `State.reset`. -/
theorem resetLeavesTheStatedValues : Obligations.ResetLeavesTheStatedValues := by
  unfold Obligations.ResetLeavesTheStatedValues
  refine ⟨rfl, by decide, by decide, rfl, rfl, rfl, rfl, fun j hj => ?_, ⟨rfl, rfl, rfl, rfl, rfl, rfl⟩, rfl, rfl⟩
  exact Vector.getElem_replicate hj

theorem getElem_digestWords (r : OtpResult) {k : Nat} (hk : k < 5) : (digestWords r)[k] = wordBE r.digest k := by
  match k, hk with
  | 0, _ | 1, _ | 2, _ | 3, _ | 4, _ => rfl

theorem getElem_codeWords (r : OtpResult) {m : Nat} (hm : m < 3) : (codeWords r)[m] = wordBE r.buf m := by
  match m, hm with
  | 0, _ | 1, _ | 2, _ => rfl

/-- Settles O35: the ENGINE turn is COMPLETE of the snapshot. -/
theorem completeWritesTheResult : Obligations.CompleteWritesTheResult := by
  unfold Obligations.CompleteWritesTheResult
  intro s ts hp hf hd
  have hval := toNat_codeValue_complete (s := { s with turns := ts }) hd
  refine ⟨_, step_of_engine_turn_busy rfl hp hf, fun k hk => getElem_digestWords _ hk, toNat_truncOffset _, rfl,
    hval, fun m hm => ?_, rfl, rfl⟩
  rw [hval]
  exact getElem_codeWords _ hm

end Sys2Proof.Proofs
end

section
/-! What accesses decode to: which of them can reach the status and the results (R55, R58, R86, R91). -/

namespace Sys2Proof.Proofs

open Sys2Proof.Machine Sys2Proof.Laws

/-- The transactions that can change the status or the results: the instructions that do, and the reserved commands. A word that
is no transaction counts among them. -/
def decodedTouchesStatus : Decoded → Bool
  | .instr i => touchesStatus i
  | .cmdReserved _ | .rejected _ => true
  | .rdReserved _ | .wrIgnored _ _ => false

theorem decodedTouchesStatus_decodeRead (off : BitVec 8) : decodedTouchesStatus (decodeRead off) = false := by
  unfold decodeRead
  split <;> rfl

theorem decodedTouchesStatus_decodeWrite {off : BitVec 8} (hctrl : off ≠ 0x00#8) (hstatus : off ≠ 0x04#8)
    (data : Word) : decodedTouchesStatus (decodeWrite off data) = false := by
  unfold decodeWrite
  split
  case h_1 h => exact absurd (BitVec.eq_of_toNat_eq h) hctrl
  case h_2 h => exact absurd (BitVec.eq_of_toNat_eq h) hstatus
  all_goals rfl

theorem decodeCommand_ne_rejected (data : Word) (why : Reject) : decodeCommand data ≠ .rejected why := by
  unfold decodeCommand
  split <;> nofun

/-- An aligned 32-bit access is a transaction (R54, R55). -/
theorem decode_word_ne_rejected {a : Access} (hw : a.wellFormed = true) (why : Reject) :
    decode a.word ≠ .rejected why := by
  have hquiet {d : Decoded} (h : decodedTouchesStatus d = false) : d ≠ .rejected why := by
    rintro rfl
    cases h
  rw [decode_word hw]
  split
  · by_cases hctrl : a.offset = 0x00#8
    · rw [hctrl]
      exact decodeCommand_ne_rejected a.data why
    · by_cases hstatus : a.offset = 0x04#8
      · rw [hstatus]
        nofun
      · exact hquiet (decodedTouchesStatus_decodeWrite hctrl hstatus _)
  · exact hquiet (decodedTouchesStatus_decodeRead _)

theorem performDecoded_onlyInputsDiffer {d : Decoded} (hd : decodedTouchesStatus d = false) (s : State) :
    ∃ t, performDecoded d s = .next t ∧ OnlyInputsDiffer s t := by
  cases d with
  | instr i =>
    obtain ⟨t, hexec⟩ := exec_isNext i s
    exact ⟨t, hexec, exec_onlyInputsDiffer hd hexec⟩
  | rdReserved off => exact ⟨_, rfl, onlyInputsDiffer_respond 0 s⟩
  | wrIgnored off data => exact ⟨s, rfl, onlyInputsDiffer_refl s⟩
  | cmdReserved | rejected => cases hd

end Sys2Proof.Proofs
end

section
/-! Which transactions reach the results, the computation and the status bits (R18-R21, R28-R33, R36, R149). -/

namespace Sys2Proof.Proofs

open Sys2Proof.Machine Sys2Proof.Laws

theorem start_of_busy {s : State} (h : s.fsm = .busy) : start s = setError .busy s := by
  simp [start, h]

/-- An instruction that is neither an effective START nor CLEAR keeps the results and the computation. -/
theorem exec_sameComputation {i : Instr} {s : State} (hstart : i = .cmdStart → s.fsm = .busy) (hclear : i ≠ .cmdClear) :
    ∃ t, exec i s = .next t ∧ SameComputation s t := by
  obtain ⟨t, hexec⟩ := exec_isNext i s
  refine ⟨t, hexec, ?_⟩
  rcases exec_cases hexec with ⟨hi, rfl⟩ | ⟨hi, -⟩ | ⟨d, e, -, rfl⟩ | h
  · rw [start_of_busy (hstart hi)]
    exact sameComputation_setError .busy s
  · exact absurd hi hclear
  · exact sameComputation_clearStatus d e s
  · exact h.toSameComputation

/-- The same of every transaction, with or without a row of the table. -/
theorem performDecoded_sameComputation {d : Decoded} {s : State} (htxn : ∀ why, d ≠ .rejected why)
    (hstart : d = .instr .cmdStart → s.fsm = .busy) (hclear : d ≠ .instr .cmdClear) :
    ∃ t, performDecoded d s = .next t ∧ SameComputation s t := by
  cases d with
  | instr i => exact exec_sameComputation (fun h => hstart (h ▸ rfl)) (fun h => hclear (h ▸ rfl))
  | rdReserved off => exact ⟨_, rfl, (onlyInputsDiffer_respond 0 s).toSameComputation⟩
  | wrIgnored off data => exact ⟨s, rfl, (onlyInputsDiffer_refl s).toSameComputation⟩
  | cmdReserved cmd => exact ⟨_, rfl, sameComputation_setError .cmd s⟩
  | rejected why => exact absurd rfl (htxn why)

/-- Settles O40: every aligned access is a transaction, and none but START in IDLE and CLEAR reaches the computation. -/
theorem onlyStartAndClearChangeTheResultRegisters : Obligations.OnlyStartAndClearChangeTheResultRegisters := by
  unfold Obligations.OnlyStartAndClearChangeTheResultRegisters
  constructor
  · intro i s hstart hclear
    obtain ⟨t, hexec, h⟩ := exec_sameComputation hstart hclear
    exact ⟨t, hexec, h.toSameResult, h.fsm, h.wk⟩
  · intro a s hp hw hstart hclear
    obtain ⟨t, hperform, h⟩ := performDecoded_sameComputation (decode_word_ne_rejected hw) hstart hclear
    exact ⟨t, (performAccess_ready hp hw).trans hperform, h.toSameResult, h.fsm, h.wk⟩

/-- COMPLETE reads only `wk` (R92): equal snapshots give equal results. -/
theorem sameResult_complete {s t : State} (h : t.wk = s.wk) : SameResult (complete s) (complete t) := by
  constructor <;> simp [h]

theorem exec_phase {i : Instr} {s t : State} (h : exec i s = .next t) : t.phase = s.phase := by
  rcases exec_cases h with ⟨-, rfl⟩ | ⟨-, rfl⟩ | ⟨d, e, -, rfl⟩ | h
  · rcases start_cases s with ⟨-, h⟩ | ⟨-, c, -, h⟩ | ⟨-, -, h⟩ <;> rw [h] <;> rfl
  · rfl
  · exact clearStatus_phase d e s
  · exact h.phase

/-- While BUSY no instruction but CLEAR and WR_STATUS changes DONE. -/
theorem exec_done_of_busy {i : Instr} {s t : State} (hf : s.fsm = .busy) (hclear : i ≠ .cmdClear)
    (hstatus : ∀ d e, i ≠ .wrStatus d e) (h : exec i s = .next t) : t.done = s.done := by
  rcases exec_cases h with ⟨-, rfl⟩ | ⟨hi, -⟩ | ⟨d, e, hi, -⟩ | h
  · rw [start_of_busy hf, setError_done]
  · exact absurd hi hclear
  · exact absurd hi (hstatus d e)
  · exact h.done

/-- Settles O39: the snapshot is kept, and COMPLETE reads nothing else. -/
theorem writesWhileBusyDoNotReachTheComputation : Obligations.WritesWhileBusyDoNotReachTheComputation := by
  unfold Obligations.WritesWhileBusyDoNotReachTheComputation
  intro i s ts hp hf hclear
  obtain ⟨t, hexec, h⟩ := exec_sameComputation (fun _ => hf) hclear
  have htf : t.fsm = .busy := h.fsm.trans hf
  have htp : t.phase = .ready := (exec_phase hexec).trans hp
  refine ⟨t, hexec, htf, h.wk, h.toSameResult, fun hstatus => exec_done_of_busy hf hclear hstatus hexec, ?_,
    _, _, step_of_engine_turn_busy rfl hp hf, step_of_engine_turn_busy rfl htp htf, sameResult_complete h.wk⟩
  rintro d e rfl
  obtain rfl : clearStatus d e s = t := Host.Outcome.next.inj hexec
  exact clearStatus_done d e s

theorem done_of_done_start {s : State} (h : (start s).done = true) : s.done = true := by
  rcases start_cases s with ⟨-, he⟩ | ⟨-, c, -, he⟩ | ⟨-, -, he⟩ <;> rw [he] at h
  · exact h
  · exact nomatch h
  · exact nomatch h

/-- The error is kept or cleared whole: ERR and ERR_CODE stay, or both become 0 (R21). -/
theorem clearStatus_error (d e : Bool) (s : State) :
    ((clearStatus d e s).err = s.err ∧ (clearStatus d e s).errCode = s.errCode) ∨
      ((clearStatus d e s).err = false ∧ (clearStatus d e s).errCode = 0) := by
  rw [clearStatus_eq]
  cases e with
  | false => exact .inl ⟨rfl, rfl⟩
  | true => exact .inr ⟨rfl, rfl⟩

/-- Settles O41: of the four things an instruction can do, only START, CLEAR and the W1C write reach the status bits, and
only a refused START sets one. -/
theorem onlyCommandsAndStatusWritesChangeStatus : Obligations.OnlyCommandsAndStatusWritesChangeStatus := by
  unfold Obligations.OnlyCommandsAndStatusWritesChangeStatus
  constructor
  · intro i s
    obtain ⟨t, hexec⟩ := exec_isNext i s
    refine ⟨t, hexec, ?_⟩
    rcases exec_cases hexec with ⟨hi, rfl⟩ | ⟨hi, rfl⟩ | ⟨d, e, hi, rfl⟩ | h
    · exact ⟨fun hn => absurd hi hn, done_of_done_start, fun hn => absurd hi hn⟩
    · exact ⟨fun _ hn => absurd hi hn, fun ht => (nomatch ht), fun _ => .inr ⟨rfl, rfl⟩⟩
    · exact ⟨fun _ _ hn => absurd hi (hn d e), done_of_done_clearStatus, fun _ => clearStatus_error d e s⟩
    · exact ⟨fun _ _ _ => ⟨h.done, h.err, h.errCode, h.fsm⟩, fun ht => h.done ▸ ht, fun _ => .inl ⟨h.err, h.errCode⟩⟩
  · intro a s hp hw hoff
    have hquiet : decodedTouchesStatus (decode a.word) = false := by
      rw [decode_word hw]
      split
      case isTrue hwrite => exact decodedTouchesStatus_decodeWrite (hoff hwrite).1 (hoff hwrite).2 _
      case isFalse => exact decodedTouchesStatus_decodeRead _
    obtain ⟨t, hperform, h⟩ := performDecoded_onlyInputsDiffer hquiet s
    exact ⟨t, (performAccess_ready hp hw).trans hperform, h.done, h.err, h.errCode, h.fsm⟩

end Sys2Proof.Proofs
end

section
/-! Two runs that differ only in KEYBUF: no step brings the difference out of KEYBUF and the snapshot (R27, R71, R136). -/

namespace Sys2Proof.Proofs

open Sys2Proof.Machine Sys2Proof.Laws

/-- The same state with another key buffer. -/
def withKeybuf (k : Vector Byte 64) (s : State) : State := { s with keybuf := k }

@[simp] theorem withKeybuf_fsm (k : Vector Byte 64) (s : State) : (withKeybuf k s).fsm = s.fsm := rfl
@[simp] theorem withKeybuf_phase (k : Vector Byte 64) (s : State) : (withKeybuf k s).phase = s.phase := rfl
@[simp] theorem withKeybuf_host (k : Vector Byte 64) (s : State) : (withKeybuf k s).host = s.host := rfl
@[simp] theorem withKeybuf_turns (k : Vector Byte 64) (s : State) : (withKeybuf k s).turns = s.turns := rfl
@[simp] theorem withKeybuf_startError? (k : Vector Byte 64) (s : State) :
    startError? (withKeybuf k s) = startError? s := rfl
@[simp] theorem withKeybuf_defaultTurn (k : Vector Byte 64) (s : State) :
    defaultTurn (withKeybuf k s) = defaultTurn s := rfl

/-- The states differ in nothing but KEYBUF and the snapshot that START takes of it. -/
def DifferOnlyInKey (s t : State) : Prop :=
  ∃ (k : Vector Byte 64) (w : Snapshot), t = { s with keybuf := k, wk := w }

/-- Two outcomes that, where both are next states, give states that differ in nothing but the key. -/
def OutcomesDifferOnlyInKey (o o' : Host.Outcome State Fault Refusal) : Prop :=
  ∀ s t, o = .next s → o' = .next t → DifferOnlyInKey s t

theorem outcomesDifferOnlyInKey_next {s t : State} (h : DifferOnlyInKey s t) :
    OutcomesDifferOnlyInKey (.next s) (.next t) := by
  rintro _ _ ⟨⟩ ⟨⟩
  exact h

/-- START's path depends on `fsm`, LEN and DIGITS; only the snapshot it takes depends on KEYBUF (R89). -/
theorem start_differOnlyInKey (s : State) (k : Vector Byte 64) :
    DifferOnlyInKey (start s) (start (withKeybuf k s)) := by
  unfold start
  rw [withKeybuf_fsm, withKeybuf_startError?]
  cases s.fsm with
  | busy => exact ⟨k, s.wk, rfl⟩
  | idle =>
    cases startError? s with
    | some c => exact ⟨k, s.wk, rfl⟩
    | none => exact ⟨k, (withKeybuf k s).snapshot, rfl⟩

theorem clearStatus_differOnlyInKey (d e : Bool) (s : State) (k : Vector Byte 64) :
    DifferOnlyInKey (clearStatus d e s) (clearStatus d e (withKeybuf k s)) := by
  simp only [clearStatus_eq]
  exact ⟨k, s.wk, rfl⟩

theorem exec_differOnlyInKey (i : Instr) (s : State) (k : Vector Byte 64) :
    OutcomesDifferOnlyInKey (exec i s) (exec i (withKeybuf k s)) := by
  cases i with
  | cmdStart => exact outcomesDifferOnlyInKey_next (start_differOnlyInKey s k)
  | wrStatus d e => exact outcomesDifferOnlyInKey_next (clearStatus_differOnlyInKey d e s k)
  | _ => exact outcomesDifferOnlyInKey_next ⟨_, _, rfl⟩

theorem performDecoded_differOnlyInKey (d : Decoded) (s : State) (k : Vector Byte 64) :
    OutcomesDifferOnlyInKey (performDecoded d s) (performDecoded d (withKeybuf k s)) := by
  cases d with
  | instr i => exact exec_differOnlyInKey i s k
  | rdReserved | wrIgnored | cmdReserved => exact outcomesDifferOnlyInKey_next ⟨k, s.wk, rfl⟩
  | rejected why => cases why; rintro _ _ ⟨⟩

theorem performAccess_differOnlyInKey (a : Access) (s : State) (k : Vector Byte 64) :
    OutcomesDifferOnlyInKey (performAccess a s) (performAccess a (withKeybuf k s)) := by
  intro s' t' h h'
  exact performDecoded_differOnlyInKey _ s k s' t' (performAccess_eq_next h).2 (performAccess_eq_next h').2

/-- POLL's test reads only the values returned, which agree (R62). -/
theorem performPoll_differOnlyInKey (off : BitVec 8) (mask val : Word) (s : State) (k : Vector Byte 64) :
    OutcomesDifferOnlyInKey (performPoll off mask val s) (performPoll off mask val (withKeybuf k s)) := by
  intro s' t' h h'
  obtain ⟨u, hu, rfl⟩ := performPoll_eq_next h
  obtain ⟨v, hv, rfl⟩ := performPoll_eq_next h'
  obtain ⟨k', w, rfl⟩ := performAccess_differOnlyInKey (readAt off) s k u v hu hv
  cases pollMet mask val u.reads <;> exact ⟨k', w, rfl⟩

theorem performHostOp_differOnlyInKey (op : HostOp) (s : State) (k : Vector Byte 64) :
    OutcomesDifferOnlyInKey (performHostOp op s) (performHostOp op (withKeybuf k s)) := by
  cases op with
  | access a => exact performAccess_differOnlyInKey a s k
  | bus b =>
    intro s' t' h h'
    obtain ⟨off, hoff, ha⟩ := performBus_eq_next h
    obtain ⟨off', hoff', ha'⟩ := performBus_eq_next h'
    obtain rfl : off = off' := Option.some.inj (hoff.symm.trans hoff')
    exact performAccess_differOnlyInKey _ s k s' t' ha ha'
  | poll off mask val => exact performPoll_differOnlyInKey off mask val s k

theorem hostTurn_differOnlyInKey (s : State) (k : Vector Byte 64) :
    OutcomesDifferOnlyInKey (hostTurn s) (hostTurn (withKeybuf k s)) := by
  cases hh : s.host with
  | nil =>
    simp only [hostTurn, withKeybuf_host, hh]
    exact outcomesDifferOnlyInKey_next ⟨k, s.wk, rfl⟩
  | cons op rest =>
    simp only [hostTurn, withKeybuf_host, hh]
    exact performHostOp_differOnlyInKey op { s with host := rest } k

/-- COMPLETE reads only `wk`, which agrees before it and is erased by it (R92). -/
theorem engineTurn_differOnlyInKey (s : State) (k : Vector Byte 64) :
    OutcomesDifferOnlyInKey (engineTurn s) (engineTurn (withKeybuf k s)) := by
  unfold engineTurn
  rw [withKeybuf_phase, withKeybuf_fsm]
  cases s.phase with
  | unreset => rintro _ _ ⟨⟩
  | inReset => exact outcomesDifferOnlyInKey_next ⟨k, s.wk, rfl⟩
  | ready =>
    cases s.fsm with
    | busy => exact outcomesDifferOnlyInKey_next ⟨k, .zero, rfl⟩
    | idle => exact outcomesDifferOnlyInKey_next ⟨k, s.wk, rfl⟩

theorem releaseReset_differOnlyInKey (s : State) (k : Vector Byte 64) :
    DifferOnlyInKey (releaseReset s) (releaseReset (withKeybuf k s)) := by
  unfold releaseReset
  rw [withKeybuf_phase]
  cases s.phase <;> exact ⟨k, s.wk, rfl⟩

theorem takeTurn_differOnlyInKey (tu : Turn) (s : State) (k : Vector Byte 64) :
    OutcomesDifferOnlyInKey (takeTurn tu s) (takeTurn tu (withKeybuf k s)) := by
  cases tu with
  | host => exact hostTurn_differOnlyInKey s k
  | engine => exact engineTurn_differOnlyInKey s k
  | rstAssert => exact outcomesDifferOnlyInKey_next ⟨_, _, rfl⟩
  | rstRelease => exact outcomesDifferOnlyInKey_next (releaseReset_differOnlyInKey s k)
  | powerUp => exact outcomesDifferOnlyInKey_next ⟨_, _, rfl⟩

theorem step_differOnlyInKey (s : State) (k : Vector Byte 64) :
    OutcomesDifferOnlyInKey (step s) (step (withKeybuf k s)) := by
  cases hts : s.turns with
  | nil =>
    simp only [step, withKeybuf_turns, withKeybuf_defaultTurn, hts]
    exact takeTurn_differOnlyInKey (defaultTurn s) s k
  | cons tu ts =>
    simp only [step, withKeybuf_turns, hts]
    exact takeTurn_differOnlyInKey tu { s with turns := ts } k

/-- Settles O42: after the step the states differ in nothing but KEYBUF and the snapshot, which no read, flag or result shows. -/
theorem theKeyBufferIsNotObservable : Obligations.TheKeyBufferIsNotObservable := by
  unfold Obligations.TheKeyBufferIsNotObservable
  intro s s' t' k h h'
  obtain ⟨k', w, rfl⟩ := step_differOnlyInKey s k s' t' h h'
  exact ⟨rfl, rfl, rfl, rfl, rfl, rfl, rfl, rfl, rfl⟩

end Sys2Proof.Proofs
end

section
/-! Which accesses are transactions, and that every transaction completes (R41, R54, R55, R130, R132). -/

namespace Sys2Proof.Proofs

open Sys2Proof.Machine Sys2Proof.Laws

theorem access_wellFormed_iff (a : Access) : a.wellFormed = true ↔ a.size = 4 ∧ a.offset.toNat % 4 = 0 := by
  simp [Access.wellFormed, offsetAligned]

/-- A misfit access to a ready block faults, whatever its word (R41, R130). -/
theorem performAccess_misfit {a : Access} {s : State} (hp : s.phase = .ready) (hw : a.wellFormed = false) :
    performAccess a s = .fault (.busError a.offset) := by
  simp [performAccess, accept, hp, hw]

/-- Every transaction answers a next state, with or without a row of the table (R55, R132). -/
theorem performDecoded_isNext {d : Decoded} (htxn : ∀ why, d ≠ .rejected why) (s : State) :
    ∃ t, performDecoded d s = .next t := by
  cases d with
  | instr i => exact exec_isNext i s
  | rdReserved | wrIgnored | cmdReserved => exact ⟨_, rfl⟩
  | rejected why => exact absurd rfl (htxn why)

/-- Settles O10: the check before decode passes exactly the aligned 32-bit accesses, and each of those is a transaction. -/
theorem onlyMisfitAccessesRaiseBusError : Obligations.OnlyMisfitAccessesRaiseBusError := by
  unfold Obligations.OnlyMisfitAccessesRaiseBusError
  intro a s hp
  constructor
  · intro hmisfit
    have hw : a.wellFormed = false := by
      rw [← Bool.not_eq_true, access_wellFormed_iff]
      omega
    exact performAccess_misfit hp hw
  · intro hsize hoff
    have hw : a.wellFormed = true := (access_wellFormed_iff a).2 ⟨hsize, hoff⟩
    obtain ⟨t, ht⟩ := performDecoded_isNext (decode_word_ne_rejected hw) s
    have hperform := performAccess_ready hp hw
    exact ⟨hperform, t, hperform.trans ht⟩

end Sys2Proof.Proofs
end

section
/-! Reads: each returns one value, which does not depend on the values read before (R46). -/

namespace Sys2Proof.Proofs

open Sys2Proof.Machine Sys2Proof.Laws

/-- The transaction returns the value `f` of the state and does nothing else; `f` does not depend on the values read before (R46). -/
structure ReadsValue (d : Decoded) (f : State → Word) : Prop where
  returns : ∀ s, Returns (performDecoded d s) s (f s)
  reads   : ∀ (s : State) (vs : List Word), f { s with reads := vs } = f s

/-- The word of an instruction with W = 1 is no read's (R54). -/
theorem txnW_txnWord_true_ne_false (off : BitVec 8) (data : Word) : txnW (txnWord true off data) ≠ false := by
  rw [txnW_txnWord]
  nofun

/-- An instruction with W = 0 is one of the 35 reads (R55, R63); each returns a word of the registers (R64 to R77). -/
theorem readsValue_instr {i : Instr} (h : txnW (encode i) = false) : ∃ f, ReadsValue (.instr i) f := by
  cases i with
  | cmdNop | cmdStart | cmdClear | wrStatus | wrIntEn | wrConfig | wrKeyLen | wrCounterHi | wrCounterLo
  | wrKeyW0 | wrKeyW1 | wrKeyW2 | wrKeyW3 | wrKeyW4 | wrKeyW5 | wrKeyW6 | wrKeyW7
  | wrKeyW8 | wrKeyW9 | wrKeyW10 | wrKeyW11 | wrKeyW12 | wrKeyW13 | wrKeyW14 | wrKeyW15 =>
    exact absurd h (txnW_txnWord_true_ne_false _ _)
  | _ => exact ⟨_, fun _ => rfl, fun _ _ => rfl⟩

theorem readsValue_rdReserved (off : BitVec 8) : ReadsValue (.rdReserved off) fun _ => 0 :=
  ⟨fun _ => rfl, fun _ _ => rfl⟩

/-- A read's offset selects an instruction with W = 0, or is reserved (R55 case 1). -/
theorem decodeRead_cases (off : BitVec 8) :
    (∃ i, decodeRead off = .instr i ∧ txnW (encode i) = false) ∨ decodeRead off = .rdReserved off := by
  unfold decodeRead
  split
  case h_36 => exact .inr rfl
  all_goals exact .inl ⟨_, rfl, by decide⟩

theorem readsValue_decodeRead (off : BitVec 8) : ∃ f, ReadsValue (decodeRead off) f := by
  rcases decodeRead_cases off with ⟨i, hd, hw⟩ | hd
  · exact hd ▸ readsValue_instr hw
  · exact hd ▸ ⟨_, readsValue_rdReserved off⟩

/-- An aligned 32-bit read access performs the read of its offset (R46, R55). -/
theorem performAccess_read {a : Access} {s : State} (hp : s.phase = .ready) (hread : a.write = false)
    (hw : a.wellFormed = true) : performAccess a s = performDecoded (decodeRead a.offset) s := by
  rw [performAccess_ready hp hw, decode_word hw, hread, if_neg Bool.false_ne_true]

/-- Settles O21: every read returns its value and does nothing else, so a second read of the same offset finds the same value. -/
theorem readsHaveNoSideEffects : Obligations.ReadsHaveNoSideEffects := by
  unfold Obligations.ReadsHaveNoSideEffects
  constructor
  · intro i s hw
    obtain ⟨f, hf⟩ := readsValue_instr hw
    exact ⟨f s, hf.returns s⟩
  · intro a s hp hread hw
    obtain ⟨f, hf⟩ := readsValue_decodeRead a.offset
    have hreturns (t : State) (ht : t.phase = .ready) : Returns (performAccess a t) t (f t) :=
      performAccess_read ht hread hw ▸ hf.returns t
    have hagain := hreturns { s with reads := s.reads ++ [f s] } hp
    rw [hf.reads s (s.reads ++ [f s])] at hagain
    exact ⟨f s, hreturns s hp, hagain⟩

end Sys2Proof.Proofs
end

section
/-! A HOST turn that performs a decoded instruction, named in `turns` or by default, and the issued table word (R45, R54). -/

namespace Sys2Proof.Proofs

open Sys2Proof.Machine Sys2Proof.Laws

/-- In IDLE with no turn fixed the HOST takes the turn (log 1). -/
theorem step_of_default_host_turn {s : State} {op : HostOp} {rest : List HostOp} (hts : s.turns = [])
    (hp : s.phase = .ready) (hf : s.fsm = .idle) (hh : s.host = op :: rest) :
    step s = performHostOp op { s with host := rest } := by
  simp [step, hts, defaultTurn, hp, hf, takeTurn, hostTurn, hh]

theorem performAccess_of_decode_instr {a : Access} {i : Instr} {s : State} (hp : s.phase = .ready)
    (hw : a.wellFormed = true) (hd : decode a.word = .instr i) : performAccess a s = exec i s := by
  rw [performAccess_ready hp hw, hd]
  rfl

/-- Settles O7: the turn, named or by default, is the HOST's, and its operation is the access. -/
theorem aHostTurnPerformsTheDecodedInstruction : Obligations.AHostTurnPerformsTheDecodedInstruction := by
  unfold Obligations.AHostTurnPerformsTheDecodedInstruction
  intro s a rest ts i hp hh hw hd
  constructor
  · intro hts
    exact (step_of_host_turn hts hh).trans
      (performAccess_of_decode_instr (s := { s with host := rest, turns := ts }) hp hw hd)
  · intro hts hf
    exact (step_of_default_host_turn hts hp hf hh).trans
      (performAccess_of_decode_instr (s := { s with host := rest }) hp hw hd)

/-- A table word that the decoder reads is a 41-bit transaction word of that instruction (R54, R63). -/
theorem decode_of_decodeTableWord {nbits w : Nat} {i : Instr} (h : decodeTableWord nbits w = some i) :
    decode (BitVec.ofNat 41 (w % 2 ^ nbits)) = .instr i := by
  unfold decodeTableWord at h
  split at h
  case isFalse => cases h
  case isTrue =>
    split at h
    case h_1 j hd => rwa [Option.some.inj h] at hd
    all_goals cases h

/-- A word whose offset is misaligned decodes to no instruction (R54). -/
theorem offsetAligned_of_decode_instr {t : TxnWord} {i : Instr} (h : decode t = .instr i) :
    offsetAligned (txnOff t) = true := by
  unfold decode at h
  split at h
  case isTrue hoff => exact hoff
  case isFalse => cases h

theorem word_accessOfWord (t : TxnWord) : (accessOfWord t).word = t := txnWord_fields t

theorem accessOfWord_wellFormed (t : TxnWord) : (accessOfWord t).wellFormed = offsetAligned (txnOff t) := rfl

/-- Settles O8: the issued word is the access at the head of `host`, in a named HOST turn. -/
theorem anIssuedTableWordRunsNext : Obligations.AnIssuedTableWordRunsNext := by
  unfold Obligations.AnIssuedTableWordRunsNext
  intro s nbits w i hp h
  have hd := decode_of_decodeTableWord h
  have hw := (accessOfWord_wellFormed _).trans (offsetAligned_of_decode_instr hd)
  obtain ⟨hnamed, -⟩ := aHostTurnPerformsTheDecodedInstruction (s.withFetchWord nbits w) _ s.host s.turns i hp rfl hw
    ((word_accessOfWord _).symm ▸ hd)
  exact hnamed rfl

end Sys2Proof.Proofs
end

section
/-! The operand fields of a DATA word, taken apart and packed again (R54, R56, R59). -/

namespace Sys2Proof.Proofs

open Sys2Proof.Machine Sys2Proof.Laws

/-- The bytes of a word packed from four bytes are those bytes (R43, R59). -/
theorem wordByte_packed (b0 b1 b2 b3 : Byte) :
    wordByte (b0 ++ b1 ++ b2 ++ b3) 0 = b0 ∧ wordByte (b0 ++ b1 ++ b2 ++ b3) 1 = b1 ∧
      wordByte (b0 ++ b1 ++ b2 ++ b3) 2 = b2 ∧ wordByte (b0 ++ b1 ++ b2 ++ b3) 3 = b3 := by
  have h := be4_append b0 b1 b2 b3
  rw [be4_eq] at h
  simpa using h

/-- CONFIG's field, with zeros above it, is DATA under its mask (R59). -/
theorem configField_eq_and (data : Word) : 0#28 ++ data.extractLsb' 0 4 = data &&& 0xF := by
  have hmask : data.toNat &&& 15 = data.toNat % 16 := Nat.and_two_pow_sub_one_eq_mod _ 4
  apply BitVec.eq_of_toNat_eq
  rw [BitVec.toNat_append]
  simp [hmask]

theorem keyLenField_eq_and (data : Word) : 0#24 ++ data.extractLsb' 0 8 = data &&& 0xFF := by
  have hmask : data.toNat &&& 255 = data.toNat % 256 := Nat.and_two_pow_sub_one_eq_mod _ 8
  apply BitVec.eq_of_toNat_eq
  rw [BitVec.toNat_append]
  simp [hmask]

theorem statusStrobes_eq_and (data : Word) :
    0#29 ++ BitVec.ofBool (data.getLsbD 2) ++ BitVec.ofBool (data.getLsbD 1) ++ 0#1 = data &&& 0x6 := by
  apply BitVec.eq_of_getLsbD_eq
  intro i hi
  rw [BitVec.getLsbD_append, BitVec.getLsbD_append, BitVec.getLsbD_append]
  interval_cases i <;> simp

theorem intEnBits_eq_and (data : Word) :
    0#30 ++ BitVec.ofBool (data.getLsbD 1) ++ BitVec.ofBool (data.getLsbD 0) = data &&& 0x3 := by
  apply BitVec.eq_of_getLsbD_eq
  intro i hi
  rw [BitVec.getLsbD_append, BitVec.getLsbD_append]
  interval_cases i <;> simp

theorem getLsbD_statusStrobes (doneClr errClr : Bool) :
    (0#29 ++ BitVec.ofBool errClr ++ BitVec.ofBool doneClr ++ 0#1).getLsbD 1 = doneClr ∧
      (0#29 ++ BitVec.ofBool errClr ++ BitVec.ofBool doneClr ++ 0#1).getLsbD 2 = errClr := by
  constructor <;> rw [BitVec.getLsbD_append, BitVec.getLsbD_append, BitVec.getLsbD_append] <;> simp

theorem getLsbD_intEnBits (doneIe errIe : Bool) :
    (0#30 ++ BitVec.ofBool errIe ++ BitVec.ofBool doneIe).getLsbD 0 = doneIe ∧
      (0#30 ++ BitVec.ofBool errIe ++ BitVec.ofBool doneIe).getLsbD 1 = errIe := by
  constructor <;> rw [BitVec.getLsbD_append, BitVec.getLsbD_append] <;> simp

end Sys2Proof.Proofs
end

section
/-! Decoding an encoded instruction, and encoding a decoded word (R54, R55, R59). -/

namespace Sys2Proof.Proofs

open Sys2Proof.Machine Sys2Proof.Laws

theorem decode_of_write {t : TxnWord} (hw : txnW t = true) (ha : offsetAligned (txnOff t) = true) :
    decode t = decodeWrite (txnOff t) (txnData t) := by
  simp [decode, hw, ha]

theorem decode_of_read {t : TxnWord} (hw : txnW t = false) (ha : offsetAligned (txnOff t) = true) :
    decode t = decodeRead (txnOff t) := by
  simp [decode, hw, ha]

theorem decode_txnWord_write {off : BitVec 8} (ha : offsetAligned off = true) (data : Word) :
    decode (txnWord true off data) = decodeWrite off data := by
  simp [decode, ha]

theorem decode_txnWord_read {off : BitVec 8} (ha : offsetAligned off = true) (data : Word) :
    decode (txnWord false off data) = decodeRead off := by
  simp [decode, ha]

/-- A key write's word decodes to it: its decoder arm takes the four bytes of DATA apart, and `encode` packed them (R59). -/
theorem decode_packed {off : BitVec 8} {i : Byte → Byte → Byte → Byte → Instr} (ha : offsetAligned off = true)
    (hd : ∀ data, decodeWrite off data =
      .instr (i (wordByte data 0) (wordByte data 1) (wordByte data 2) (wordByte data 3))) (b0 b1 b2 b3 : Byte) :
    decode (txnWord true off (b0 ++ b1 ++ b2 ++ b3)) = .instr (i b0 b1 b2 b3) := by
  obtain ⟨h0, h1, h2, h3⟩ := wordByte_packed b0 b1 b2 b3
  rw [decode_txnWord_write ha, hd, h0, h1, h2, h3]

/-- The decoder undoes the encoder: a read is found by its offset, and a write's operands are read from the fields that
`encode` put them in. -/
theorem decode_encode (i : Instr) : decode (encode i) = .instr i := by
  cases i with
  | wrStatus d e =>
    obtain ⟨hd, he⟩ := getLsbD_statusStrobes d e
    refine (decode_txnWord_write rfl _).trans ?_
    exact congrArg₂ (fun d e => Decoded.instr (.wrStatus d e)) hd he
  | wrIntEn d e =>
    obtain ⟨hd, he⟩ := getLsbD_intEnBits d e
    refine (decode_txnWord_write rfl _).trans ?_
    exact congrArg₂ (fun d e => Decoded.instr (.wrIntEn d e)) hd he
  | wrConfig digits =>
    refine (decode_txnWord_write rfl _).trans ?_
    exact congrArg (fun d => Decoded.instr (.wrConfig d)) BitVec.extractLsb'_append_eq_right
  | wrKeyLen len =>
    refine (decode_txnWord_write rfl _).trans ?_
    exact congrArg (fun l => Decoded.instr (.wrKeyLen l)) BitVec.extractLsb'_append_eq_right
  | cmdNop | cmdStart | cmdClear | wrCounterHi | wrCounterLo => exact decode_txnWord_write rfl _
  | wrKeyW0 | wrKeyW1 | wrKeyW2 | wrKeyW3 | wrKeyW4 | wrKeyW5 | wrKeyW6 | wrKeyW7
  | wrKeyW8 | wrKeyW9 | wrKeyW10 | wrKeyW11 | wrKeyW12 | wrKeyW13 | wrKeyW14 | wrKeyW15 =>
    exact decode_packed rfl (fun _ => rfl) _ _ _ _
  | _ => exact decode_txnWord_read rfl _

/-- Settles O1: the encoder and the decoder agree on every constructor; `wellFormed` refuses none. -/
theorem decodeOfEncodeIsTheInstruction : Obligations.DecodeOfEncodeIsTheInstruction :=
  fun i _ => decode_encode i

theorem eq_ofNat_of_toNat {off : BitVec 8} {n : Nat} (h : off.toNat = n) : off = BitVec.ofNat 8 n := by
  simp [← h]

/-- A read has no field: its word is W and OFF alone (R54). -/
theorem encode_of_decodeRead {off : BitVec 8} {i : Instr} (data : Word) (h : decodeRead off = .instr i) :
    encode i = txnWord false off (data &&& fieldMask false off) := by
  have hmask : data &&& fieldMask false off = 0#32 := BitVec.and_zero
  rw [hmask]
  unfold decodeRead at h
  split at h
  case h_36 => cases h
  all_goals
    rename_i hoff
    obtain rfl := eq_ofNat_of_toNat hoff
    cases h
    rfl

/-- The three commands keep their CMD field, the other bits of DATA are 0 (R56, R57). -/
theorem encode_of_decodeCommand {data : Word} {i : Instr} (h : decodeCommand data = .instr i) :
    encode i = txnWord true 0x00#8 (data &&& 0xF) := by
  have hcmd {c : BitVec 4} (hc : (data.extractLsb' 0 4).toNat = c.toNat) : data &&& 0xF = 0#28 ++ c := by
    rw [← configField_eq_and, BitVec.eq_of_toNat_eq hc]
  unfold decodeCommand at h
  split at h
  case h_1 hc => cases h; rw [hcmd (c := 0) hc]; rfl
  case h_2 hc => cases h; rw [hcmd (c := 1) hc]; rfl
  case h_3 hc => cases h; rw [hcmd (c := 2) hc]; rfl
  case h_4 => cases h

theorem encode_of_decodeWrite {off : BitVec 8} {data : Word} {i : Instr} (h : decodeWrite off data = .instr i) :
    encode i = txnWord true off (data &&& fieldMask true off) := by
  have hwhole {w : Word} (hw : w = data) : w = data &&& 0xFFFFFFFF := hw.trans (BitVec.and_allOnes (x := data)).symm
  have hbytes := hwhole (packed_wordByte data)
  unfold decodeWrite at h
  split at h
  case h_24 => cases h
  all_goals
    rename_i hoff
    obtain rfl := eq_ofNat_of_toNat hoff
  case h_1 => exact encode_of_decodeCommand h
  all_goals cases h
  case h_2 => exact congrArg (txnWord true _) (statusStrobes_eq_and data)
  case h_3 => exact congrArg (txnWord true _) (intEnBits_eq_and data)
  case h_4 => exact congrArg (txnWord true _) (configField_eq_and data)
  case h_5 => exact congrArg (txnWord true _) (keyLenField_eq_and data)
  case h_6 | h_7 => exact congrArg (txnWord true _) (hwhole rfl)
  all_goals exact congrArg (txnWord true _) hbytes

/-- Settles O2: a decoded word is an aligned read or write, and each decoder arm's operands pack into the masked DATA. -/
theorem encodeOfDecodeKeepsTheFields : Obligations.EncodeOfDecodeKeepsTheFields := by
  unfold Obligations.EncodeOfDecodeKeepsTheFields
  intro t i h
  have ha := offsetAligned_of_decode_instr h
  cases hw : txnW t with
  | false => exact encode_of_decodeRead _ ((decode_of_read hw ha).symm.trans h)
  | true => exact encode_of_decodeWrite ((decode_of_write hw ha).symm.trans h)

end Sys2Proof.Proofs
end

section
/-! The rows of the opcode table against the decoder (R55, R57, R63). -/

namespace Sys2Proof.Proofs

open Sys2Proof.Machine Sys2Proof.Laws

/-! ### What a row covers -/

theorem txnWord_inj {w w' : Bool} {off off' : BitVec 8} {data data' : Word} :
    txnWord w off data = txnWord w' off' data' ↔ w = w' ∧ off = off' ∧ data = data' := by
  constructor
  · intro h
    have hw := congrArg txnW h
    have hoff := congrArg txnOff h
    have hdata := congrArg txnData h
    simp only [txnW_txnWord, txnOff_txnWord, txnData_txnWord] at hw hoff hdata
    exact ⟨hw, hoff, hdata⟩
  · rintro ⟨rfl, rfl, rfl⟩
    rfl

/-- A mask that keeps W and OFF acts on DATA alone. -/
theorem txnWord_and (w : Bool) (off : BitVec 8) (data m : Word) :
    txnWord w off data &&& txnWord true 0xFF#8 m = txnWord w off (data &&& m) := by
  have hw : BitVec.ofBool w &&& BitVec.ofBool true = BitVec.ofBool w := by cases w <;> rfl
  have hoff : off &&& 0xFF#8 = off := BitVec.and_allOnes
  simp only [txnWord]
  rw [BitVec.and_append, BitVec.and_append, hw, hoff]

/-- Every row fixes W and OFF, and of DATA only bits of its form's fields (R56, R57). -/
theorem mask_of_mem_opcodeTable : ∀ r ∈ opcodeTable, r.mask = txnWord true 0xFF#8 (txnData r.mask) ∧
    fieldMask (txnW r.pattern) (txnOff r.pattern) &&& txnData r.mask = txnData r.mask := by
  decide +kernel

/-- A row covers a word exactly when W, OFF and the fixed bits of DATA are those of its pattern (R63). -/
theorem covers_iff {r : Row} (hr : r ∈ opcodeTable) (t : TxnWord) :
    r.covers t = true ↔ txnW t = txnW r.pattern ∧ txnOff t = txnOff r.pattern ∧
      txnData t &&& txnData r.mask = txnData r.pattern := by
  have hmask := (mask_of_mem_opcodeTable r hr).1
  have hand : t &&& r.mask = txnWord (txnW t) (txnOff t) (txnData t &&& txnData r.mask) := by
    conv_lhs => rw [hmask, ← txnWord_fields t]
    exact txnWord_and _ _ _ _
  rw [Row.covers, beq_iff_eq, hand, ← txnWord_inj, txnWord_fields]

/-! ### A covered word decodes to its row's instruction -/

theorem toNat_cmd (data : Word) : (data.extractLsb' 0 4).toNat = data.toNat % 16 := by
  simp

theorem toNat_and_cmd (data : Word) : (data &&& 0xF).toNat = data.toNat % 16 :=
  (BitVec.toNat_and data 0xF).trans (Nat.and_two_pow_sub_one_eq_mod _ 4)

theorem decodeCommand_of_nop {data : Word} (h : data.toNat % 16 = 0) : decodeCommand data = .instr .cmdNop := by
  simp only [decodeCommand, toNat_cmd, h]

theorem decodeCommand_of_start {data : Word} (h : data.toNat % 16 = 1) : decodeCommand data = .instr .cmdStart := by
  simp only [decodeCommand, toNat_cmd, h]

theorem decodeCommand_of_clear {data : Word} (h : data.toNat % 16 = 2) : decodeCommand data = .instr .cmdClear := by
  simp only [decodeCommand, toNat_cmd, h]

/-- A command is NOP, START, CLEAR or reserved (R58). -/
theorem decodeCommand_cases (data : Word) : (∃ i, decodeCommand data = .instr i) ∨
    (decodeCommand data = .cmdReserved (data.extractLsb' 0 4) ∧ 3 ≤ (data.extractLsb' 0 4).toNat) := by
  unfold decodeCommand
  split
  case h_4 h0 h1 h2 => exact .inr ⟨rfl, by simp only [imp_false] at h0 h1 h2; omega⟩
  all_goals exact .inl ⟨_, rfl⟩

/-- A command row's fixed DATA bits are CMD (R57). -/
theorem rowsCommand_decode : ∀ r ∈ rowsCommand, txnW r.pattern = true ∧ txnOff r.pattern = 0x00#8 ∧
    ∀ data : Word, data &&& txnData r.mask = txnData r.pattern →
      ∃ i, decodeCommand data = .instr i ∧ i.mnemonic = r.mnemonic := by
  have hcmd {data c : Word} (h : data &&& 0xF = c) : data.toNat % 16 = c.toNat := h ▸ (toNat_and_cmd data).symm
  intro r hr
  fin_cases hr
  · exact ⟨rfl, rfl, fun data h => ⟨_, decodeCommand_of_nop (hcmd h), rfl⟩⟩
  · exact ⟨rfl, rfl, fun data h => ⟨_, decodeCommand_of_start (hcmd h), rfl⟩⟩
  · exact ⟨rfl, rfl, fun data h => ⟨_, decodeCommand_of_clear (hcmd h), rfl⟩⟩

/-- A write row's offset selects its instruction, whatever DATA is (R55, R63). -/
theorem rowsWrite_decode : ∀ r ∈ rowsWrite, txnW r.pattern = true ∧ offsetAligned (txnOff r.pattern) = true ∧
    ∀ data, ∃ i, decodeWrite (txnOff r.pattern) data = .instr i ∧ i.mnemonic = r.mnemonic := by
  intro r hr
  fin_cases hr <;> exact ⟨rfl, rfl, fun _ => ⟨_, rfl, rfl⟩⟩

/-- A read row's offset selects its instruction (R55, R63). -/
theorem rowsRead_decode : ∀ r ∈ rowsRead, txnW r.pattern = false ∧ offsetAligned (txnOff r.pattern) = true ∧
    ∃ i, decodeRead (txnOff r.pattern) = .instr i ∧ i.mnemonic = r.mnemonic := by
  intro r hr
  fin_cases hr <;> exact ⟨rfl, rfl, _, rfl, rfl⟩

theorem decode_of_covers {r : Row} (hr : r ∈ opcodeTable) {t : TxnWord} (h : r.covers t = true) :
    ∃ i, decode t = .instr i ∧ i.mnemonic = r.mnemonic := by
  obtain ⟨hw, hoff, hdata⟩ := (covers_iff hr t).1 h
  simp only [opcodeTable, List.mem_append] at hr
  rcases hr with (hr | hr) | hr
  · obtain ⟨hpw, hpoff, hd⟩ := rowsCommand_decode r hr
    have hdec : decode t = decodeCommand (txnData t) := by
      rw [decode_of_write (hw.trans hpw) (by rw [hoff, hpoff]; rfl), hoff, hpoff]
      rfl
    exact hdec ▸ hd _ hdata
  · obtain ⟨hpw, ha, hd⟩ := rowsWrite_decode r hr
    rw [decode_of_write (hw.trans hpw) (hoff ▸ ha), hoff]
    exact hd _
  · obtain ⟨hpw, ha, hd⟩ := rowsRead_decode r hr
    rw [decode_of_read (hw.trans hpw) (hoff ▸ ha), hoff]
    exact hd

/-! ### A decoded word is covered by its instruction's row -/

open EncodesItsRow in
/-- The architect's family, as one statement about every instruction. -/
theorem encodesItsRow : ∀ i : Instr, EncodesItsRow.Statement i
  | .cmdNop => cmdNop
  | .cmdStart => cmdStart
  | .cmdClear => cmdClear
  | .wrStatus doneClr errClr => wrStatus doneClr errClr
  | .wrIntEn doneIe errIe => wrIntEn doneIe errIe
  | .wrConfig digits => wrConfig digits
  | .wrKeyLen len => wrKeyLen len
  | .wrCounterHi value => wrCounterHi value
  | .wrCounterLo value => wrCounterLo value
  | .wrKeyW0 b0 b1 b2 b3 => wrKeyW0 b0 b1 b2 b3
  | .wrKeyW1 b0 b1 b2 b3 => wrKeyW1 b0 b1 b2 b3
  | .wrKeyW2 b0 b1 b2 b3 => wrKeyW2 b0 b1 b2 b3
  | .wrKeyW3 b0 b1 b2 b3 => wrKeyW3 b0 b1 b2 b3
  | .wrKeyW4 b0 b1 b2 b3 => wrKeyW4 b0 b1 b2 b3
  | .wrKeyW5 b0 b1 b2 b3 => wrKeyW5 b0 b1 b2 b3
  | .wrKeyW6 b0 b1 b2 b3 => wrKeyW6 b0 b1 b2 b3
  | .wrKeyW7 b0 b1 b2 b3 => wrKeyW7 b0 b1 b2 b3
  | .wrKeyW8 b0 b1 b2 b3 => wrKeyW8 b0 b1 b2 b3
  | .wrKeyW9 b0 b1 b2 b3 => wrKeyW9 b0 b1 b2 b3
  | .wrKeyW10 b0 b1 b2 b3 => wrKeyW10 b0 b1 b2 b3
  | .wrKeyW11 b0 b1 b2 b3 => wrKeyW11 b0 b1 b2 b3
  | .wrKeyW12 b0 b1 b2 b3 => wrKeyW12 b0 b1 b2 b3
  | .wrKeyW13 b0 b1 b2 b3 => wrKeyW13 b0 b1 b2 b3
  | .wrKeyW14 b0 b1 b2 b3 => wrKeyW14 b0 b1 b2 b3
  | .wrKeyW15 b0 b1 b2 b3 => wrKeyW15 b0 b1 b2 b3
  | .rdCtrl => rdCtrl
  | .rdStatus => rdStatus
  | .rdIntEn => rdIntEn
  | .rdConfig => rdConfig
  | .rdKeyLen => rdKeyLen
  | .rdCounterHi => rdCounterHi
  | .rdCounterLo => rdCounterLo
  | .rdKeyW0 => rdKeyW0
  | .rdKeyW1 => rdKeyW1
  | .rdKeyW2 => rdKeyW2
  | .rdKeyW3 => rdKeyW3
  | .rdKeyW4 => rdKeyW4
  | .rdKeyW5 => rdKeyW5
  | .rdKeyW6 => rdKeyW6
  | .rdKeyW7 => rdKeyW7
  | .rdKeyW8 => rdKeyW8
  | .rdKeyW9 => rdKeyW9
  | .rdKeyW10 => rdKeyW10
  | .rdKeyW11 => rdKeyW11
  | .rdKeyW12 => rdKeyW12
  | .rdKeyW13 => rdKeyW13
  | .rdKeyW14 => rdKeyW14
  | .rdKeyW15 => rdKeyW15
  | .rdDigestW0 => rdDigestW0
  | .rdDigestW1 => rdDigestW1
  | .rdDigestW2 => rdDigestW2
  | .rdDigestW3 => rdDigestW3
  | .rdDigestW4 => rdDigestW4
  | .rdOffset => rdOffset
  | .rdTrunc => rdTrunc
  | .rdCodeValue => rdCodeValue
  | .rdCodeAscii0 => rdCodeAscii0
  | .rdCodeAscii1 => rdCodeAscii1
  | .rdCodeAscii2 => rdCodeAscii2
  | .rdCodeDigits => rdCodeDigits

theorem mem_of_rowOf {i : Instr} {r : Row} (h : rowOf i = some r) : r ∈ opcodeTable ∧ r.mnemonic = i.mnemonic :=
  ⟨List.mem_of_find?_eq_some h, by simpa using List.find?_some h⟩

/-- The row of the instruction covers its encoding, from which the word differs in no bit that a row fixes. -/
theorem exists_row_of_decode {t : TxnWord} {i : Instr} (h : decode t = .instr i) :
    ∃ r ∈ opcodeTable, r.covers t = true ∧ r.mnemonic = i.mnemonic := by
  obtain ⟨-, r, hrow, hcov⟩ := encodesItsRow i
  obtain ⟨hr, hmn⟩ := mem_of_rowOf hrow
  rw [encodeOfDecodeKeepsTheFields t i h, covers_iff hr] at hcov
  simp only [txnW_txnWord, txnOff_txnWord, txnData_txnWord] at hcov
  obtain ⟨hw, hoff, hdata⟩ := hcov
  rw [hw, hoff, BitVec.and_assoc, (mask_of_mem_opcodeTable r hr).2] at hdata
  exact ⟨r, hr, (covers_iff hr t).2 ⟨hw, hoff, hdata⟩, hmn⟩

theorem row_eq_of_mnemonic_eq {r₁ r₂ : Row} (h₁ : r₁ ∈ opcodeTable) (h₂ : r₂ ∈ opcodeTable)
    (h : r₁.mnemonic = r₂.mnemonic) : r₁ = r₂ := by
  have hnodup : (opcodeTable.map Row.mnemonic).Nodup := by decide +kernel
  exact List.inj_on_of_nodup_map hnodup h₁ h₂ h

/-- Settles O3: a row's pattern fixes the offset the decoder looks up, and the row of a decoded instruction is the only one
with its mnemonic. -/
theorem decoderFollowsTheOpcodeTable : Obligations.DecoderFollowsTheOpcodeTable := by
  unfold Obligations.DecoderFollowsTheOpcodeTable
  intro r hr t
  constructor
  · exact decode_of_covers hr
  · rintro ⟨i, hd, hmn⟩
    obtain ⟨r', hr', hcov, hmn'⟩ := exists_row_of_decode hd
    exact row_eq_of_mnemonic_eq hr' hr (hmn'.trans hmn) ▸ hcov

/-- Settles O4: a word decodes to one instruction, whose mnemonic is that of both rows. -/
theorem opcodeTableRowsAreDisjoint : Obligations.OpcodeTableRowsAreDisjoint := by
  unfold Obligations.OpcodeTableRowsAreDisjoint
  intro r₁ h₁ r₂ h₂ t hc₁ hc₂
  obtain ⟨i, hi, hm₁⟩ := decode_of_covers h₁ hc₁
  obtain ⟨j, hj, hm₂⟩ := decode_of_covers h₂ hc₂
  obtain rfl : i = j := Decoded.instr.inj (hi.symm.trans hj)
  exact row_eq_of_mnemonic_eq h₁ h₂ (hm₁.symm.trans hm₂)

/-! ### Words that no row covers -/

/-- The reserved offsets are the word slots without a register (R15, R34). -/
theorem offset_of_decodeRead_reserved {off : BitVec 8} (ha : offsetAligned off = true)
    (h : decodeRead off = .rdReserved off) : off = 0x1C#8 ∨ 0x90 ≤ off.toNat := by
  simp only [offsetAligned, beq_iff_eq] at ha
  rw [← BitVec.toNat_inj, BitVec.toNat_ofNat]
  unfold decodeRead at h
  split at h
  case h_36 =>
    simp only [imp_false] at *
    omega
  all_goals cases h

/-- The ignored writes are those of the word slots without a writable register (R86). -/
theorem offset_of_decodeWrite_ignored {off : BitVec 8} {data : Word} (ha : offsetAligned off = true)
    (h : decodeWrite off data = .wrIgnored off data) : off = 0x1C#8 ∨ 0x60 ≤ off.toNat := by
  simp only [offsetAligned, beq_iff_eq] at ha
  rw [← BitVec.toNat_inj, BitVec.toNat_ofNat]
  unfold decodeWrite at h
  split at h
  case h_1 =>
    rcases decodeCommand_cases data with ⟨i, hd⟩ | ⟨hd, -⟩ <;> cases hd.symm.trans h
  case h_24 =>
    simp only [imp_false] at *
    omega
  all_goals cases h

/-- A write outside CTRL selects an instruction or is ignored (R55 cases 3 and 4). -/
theorem decodeWrite_cases {off : BitVec 8} (hctrl : off ≠ 0x00#8) (data : Word) :
    (∃ i, decodeWrite off data = .instr i) ∨ decodeWrite off data = .wrIgnored off data := by
  unfold decodeWrite
  split
  case h_1 h => exact absurd (eq_ofNat_of_toNat h) hctrl
  case h_24 => exact .inr rfl
  all_goals exact .inl ⟨_, rfl⟩

/-- Settles O5: such a word decodes to no instruction, so it takes the last arm of the decoder's match. -/
theorem wordsWithoutARowDecodeAsTheRulesSay : Obligations.WordsWithoutARowDecodeAsTheRulesSay := by
  unfold Obligations.WordsWithoutARowDecodeAsTheRulesSay
  intro t ha hnone
  have hno (i : Instr) : decode t ≠ .instr i := by
    intro hd
    obtain ⟨r, hr, hcov, -⟩ := exists_row_of_decode hd
    exact absurd hcov (by simp [hnone r hr])
  refine ⟨fun hw => ?_, fun hw hoff => ?_, fun hw hoff => ?_⟩
  · have hd := decode_of_read hw ha
    rcases decodeRead_cases (txnOff t) with ⟨i, hi, -⟩ | hres
    · exact absurd (hd.trans hi) (hno i)
    · exact ⟨hd.trans hres, offset_of_decodeRead_reserved ha hres⟩
  · have hd : decode t = decodeCommand (txnData t) := by
      rw [decode_of_write hw ha, hoff]
      rfl
    rcases decodeCommand_cases (txnData t) with ⟨i, hi⟩ | ⟨hres, hcmd⟩
    · exact absurd (hd.trans hi) (hno i)
    · exact ⟨hd.trans hres, hcmd⟩
  · have hd := decode_of_write hw ha
    rcases decodeWrite_cases hoff (txnData t) with ⟨i, hi⟩ | hign
    · exact absurd (hd.trans hi) (hno i)
    · exact ⟨hd.trans hign, offset_of_decodeWrite_ignored ha hign⟩

/-- Settles O6: each word is evaluated by the decoder. -/
theorem wordsOfTheSpecDecode : Obligations.WordsOfTheSpecDecode := by
  unfold Obligations.WordsOfTheSpecDecode
  decide

end Sys2Proof.Proofs
end

section
/-! What every instruction leaves to the agents around the block (R13, R55, R132). -/

namespace Sys2Proof.Proofs

open Sys2Proof.Machine Sys2Proof.Laws

/-- The agents around the block are untouched, but for the values `vs` that a read returned. -/
structure SameAgents (s t : State) (vs : List Word) : Prop where
  phase    : t.phase = s.phase
  host     : t.host = s.host
  turns    : t.turns = s.turns
  powerUps : t.powerUps = s.powerUps
  reads    : t.reads = s.reads ++ vs

theorem sameAgents_start (s : State) : SameAgents s (start s) [] := by
  rcases start_cases s with ⟨-, h⟩ | ⟨-, c, -, h⟩ | ⟨-, -, h⟩ <;> rw [h] <;>
    exact ⟨rfl, rfl, rfl, rfl, (List.append_nil _).symm⟩

theorem sameAgents_clearStatus (d e : Bool) (s : State) : SameAgents s (clearStatus d e s) [] := by
  rw [clearStatus_eq]
  exact ⟨rfl, rfl, rfl, rfl, (List.append_nil _).symm⟩

/-- An instruction with W = 1 returns no value (R54). -/
theorem sameAgents_exec_write {i : Instr} (hw : txnW (encode i) = true) (s : State) :
    ∃ t, exec i s = .next t ∧ SameAgents s t [] := by
  cases i with
  | cmdStart => exact ⟨_, rfl, sameAgents_start s⟩
  | wrStatus d e => exact ⟨_, rfl, sameAgents_clearStatus d e s⟩
  | cmdNop | cmdClear | wrIntEn | wrConfig | wrKeyLen | wrCounterHi | wrCounterLo
  | wrKeyW0 | wrKeyW1 | wrKeyW2 | wrKeyW3 | wrKeyW4 | wrKeyW5 | wrKeyW6 | wrKeyW7
  | wrKeyW8 | wrKeyW9 | wrKeyW10 | wrKeyW11 | wrKeyW12 | wrKeyW13 | wrKeyW14 | wrKeyW15 =>
    exact ⟨_, rfl, rfl, rfl, rfl, rfl, (List.append_nil _).symm⟩
  | _ => cases hw

/-- Settles O9: a write returns nothing, and a read returns one value. -/
theorem everyInstructionCompletes : Obligations.EveryInstructionCompletes := by
  unfold Obligations.EveryInstructionCompletes
  intro i s
  cases hw : txnW (encode i) with
  | true =>
    obtain ⟨t, hexec, h⟩ := sameAgents_exec_write hw s
    exact ⟨t, hexec, h.phase, h.host, h.turns, h.powerUps, [], h.reads, Nat.zero_le 1⟩
  | false =>
    obtain ⟨f, hf⟩ := readsValue_instr hw
    exact ⟨_, hf.returns s, rfl, rfl, rfl, rfl, [f s], rfl, Nat.le_refl 1⟩

end Sys2Proof.Proofs
end

section
/-! 32-bit writes by offset: each stores its fields, and CTRL performs its command (R56-R59, R79-R87). -/

namespace Sys2Proof.Proofs

open Sys2Proof.Machine Sys2Proof.Laws

/-- An aligned 32-bit write performs the write of its offset (R55). -/
theorem performAccess_writeAt {off : BitVec 8} {s : State} (hp : s.phase = .ready) (ha : offsetAligned off = true)
    (data : Word) : performAccess (writeAt off data) s = performDecoded (decodeWrite off data) s := by
  have hw : (writeAt off data).wellFormed = true := ha
  rw [performAccess_ready hp hw, decode_word hw]
  rfl

/-- A write of KEY_Wn stores the four bytes of DATA, most significant first (R27, R59, R85). -/
theorem performAccess_writeAt_keyW {s : State} (hp : s.phase = .ready) (n : Fin 16) (data : Word) :
    performAccess (writeAt (Reg.keyW n).off data) s = .next (writeKeyWord n (wordByte data 0) (wordByte data 1)
      (wordByte data 2) (wordByte data 3) s) := by
  fin_cases n <;> exact performAccess_writeAt hp rfl data

/-- Settles O15: the decoder arm of each offset takes the fields out of DATA, and its instruction stores them. -/
theorem registerWritesStoreTheirDataFields : Obligations.RegisterWritesStoreTheirDataFields := by
  unfold Obligations.RegisterWritesStoreTheirDataFields
  intro v s hp
  refine ⟨performAccess_writeAt hp rfl v, performAccess_writeAt hp rfl v, performAccess_writeAt hp rfl v,
    performAccess_writeAt hp rfl v, performAccess_writeAt hp rfl v, fun n hn => ?_, ?_⟩
  · have hwrite := performAccess_writeAt_keyW hp ⟨n, hn⟩ v
    exact hwrite ▸ writesKeyWord_next ⟨n, hn⟩ _ _ _ _ s
  · exact (performAccess_writeAt hp rfl v).trans (congrArg Host.Outcome.next (clearStatus_eq _ _ s))

/-- A CTRL write performs its command (R56, R87). -/
theorem performAccess_writeAt_ctrl {s : State} (hp : s.phase = .ready) (data : Word) :
    performAccess (writeAt 0x00#8 data) s = performDecoded (decodeCommand data) s :=
  performAccess_writeAt hp rfl data

/-- Settles O16: the command decoder looks at DATA[3:0] only. -/
theorem ctrlWritesIgnoreTheUpperDataBits : Obligations.CtrlWritesIgnoreTheUpperDataBits := by
  unfold Obligations.CtrlWritesIgnoreTheUpperDataBits
  intro v s hp
  rw [performAccess_writeAt_ctrl hp]
  refine ⟨fun h => ?_, fun h => ?_, fun h => ?_⟩
  · rw [decodeCommand_of_nop h]
    rfl
  · rw [decodeCommand_of_start h]
    rfl
  · rw [decodeCommand_of_clear h]
    rfl

end Sys2Proof.Proofs
end

section
/-! One turn of a POLL, and the end of a WAIT loop (R62, R92, R94). -/

namespace Sys2Proof.Proofs

open Sys2Proof.Machine Sys2Proof.Laws

/-! ### One turn of a POLL -/

/-- A read returns a value of the registers: it does not look at the HOST's side (R13, R46). -/
theorem decodeRead_returns (off : BitVec 8) : ∃ f : State → Word,
    (∀ s, Returns (performDecoded (decodeRead off) s) s (f s)) ∧
      ∀ (s : State) (ops : List HostOp) (ts : List Turn), f { s with host := ops, turns := ts } = f s := by
  unfold decodeRead
  split <;> exact ⟨_, fun _ => rfl, fun _ _ _ => rfl⟩

theorem returns_inj {o : Host.Outcome State Fault Refusal} {s : State} {v w : Word} (hv : Returns o s v)
    (hw : Returns o s w) : v = w := by
  have hreads := congrArg State.reads (Host.Outcome.next.inj (hv.symm.trans hw))
  simpa using hreads

/-- One turn of POLL whose read returns `v`: the POLL is gone when `v` meets it, and pending again otherwise (R62). -/
theorem performPoll_of_returns {off : BitVec 8} {mask val v : Word} {s : State}
    (h : Returns (performAccess (readAt off) s) s v) : performPoll off mask val s = .next { s with
      reads := s.reads ++ [v]
      host := if v &&& mask = val then s.host else .poll off mask val :: s.host } := by
  have hread : performAccess (readAt off) s = .next { s with reads := s.reads ++ [v] } := h
  by_cases hmet : v &&& mask = val <;> simp [performPoll, hread, pollMet, hmet]

/-- Settles O53: the turn is the HOST's, named or by default, and the value read is one of the registers, which taking the turn
and the operation does not change. -/
theorem aPollRepeatsItsReadUntilTheValueAppears : Obligations.APollRepeatsItsReadUntilTheValueAppears := by
  unfold Obligations.APollRepeatsItsReadUntilTheValueAppears
  intro s off mask val rest hp hh hoff
  obtain ⟨f, hreturns, hagents⟩ := decodeRead_returns off
  have hw : (readAt off).wellFormed = true := (access_wellFormed_iff _).2 ⟨rfl, hoff⟩
  have hread {u : State} (hu : u.phase = .ready) : Returns (performAccess (readAt off) u) u (f u) :=
    performAccess_read hu rfl hw ▸ hreturns u
  have hpoll (ts : List Turn) := performPoll_of_returns (mask := mask) (val := val)
    (hread (u := { s with host := rest, turns := ts }) hp)
  simp only [hagents] at hpoll
  refine ⟨f s, hread hp, fun ts hts => ?_, fun hts hf => ?_⟩
  · rw [hh]
    exact (step_of_host_turn hts hh).trans (hpoll ts)
  · rw [hh]
    exact (step_of_default_host_turn hts hp hf hh).trans (hpoll s.turns)

/-! ### One turn of a WAIT -/

theorem statusWord_busy (s : State) : s.statusWord.getLsbD 0 = s.busy := by
  rw [State.statusWord, BitVec.getLsbD_append]
  simp

/-- WAIT's test of STATUS is met exactly in IDLE (R18, R62). -/
theorem statusWord_and_one_eq_zero_iff (s : State) : s.statusWord &&& 0x1 = 0 ↔ s.fsm = .idle := by
  have hbit : s.statusWord &&& 0x1 = (BitVec.ofBool s.busy).setWidth 32 :=
    BitVec.and_one_eq_setWidth_ofBool_getLsbD.trans (by rw [statusWord_busy])
  rw [hbit, State.busy]
  cases s.fsm <;> decide

theorem returns_readAt_status {s : State} (hp : s.phase = .ready) :
    Returns (performAccess (readAt 0x04#8) s) s s.statusWord :=
  performAccess_read hp rfl rfl

/-- WAIT in IDLE is met by its read (R62). -/
theorem step_of_wait_idle {s : State} {rest : List HostOp} {ts : List Turn} (hp : s.phase = .ready) (hf : s.fsm = .idle)
    (hh : s.host = .poll 0x04#8 0x1 0 :: rest) (hts : s.turns = .host :: ts ∨ (s.turns = [] ∧ ts = [])) :
    step s = .next { s with reads := s.reads ++ [s.statusWord], turns := ts, host := rest } := by
  obtain ⟨v, hv, hnamed, hdefault⟩ := aPollRepeatsItsReadUntilTheValueAppears s _ _ _ _ hp hh rfl
  obtain rfl := returns_inj (returns_readAt_status hp) hv
  rw [if_pos ((statusWord_and_one_eq_zero_iff s).2 hf)] at hnamed hdefault
  rcases hts with hts | ⟨hts, rfl⟩
  · exact hnamed ts hts
  · rw [← hts]
    exact hdefault hts hf

/-- WAIT while BUSY stays pending (R62). -/
theorem step_of_wait_busy {s : State} {rest : List HostOp} {ts : List Turn} (hp : s.phase = .ready) (hf : s.fsm = .busy)
    (hh : s.host = .poll 0x04#8 0x1 0 :: rest) (hts : s.turns = .host :: ts) :
    step s = .next { s with reads := s.reads ++ [s.statusWord], turns := ts } := by
  obtain ⟨v, hv, hnamed, -⟩ := aPollRepeatsItsReadUntilTheValueAppears s _ _ _ _ hp hh rfl
  obtain rfl := returns_inj (returns_readAt_status hp) hv
  have hunmet : ¬ s.statusWord &&& 0x1 = 0 := by
    rw [statusWord_and_one_eq_zero_iff, hf]
    nofun
  rw [if_neg hunmet] at hnamed
  exact hnamed ts hts

theorem step_of_engine_turn_idle {s : State} {ts : List Turn} (hts : s.turns = .engine :: ts) (hp : s.phase = .ready)
    (hf : s.fsm = .idle) : step s = .next { s with turns := ts } := by
  simp [step, hts, takeTurn, engineTurn, hp, hf]

/-- While BUSY with no turn fixed the ENGINE takes the turn (log 1). -/
theorem step_of_default_engine_turn {s : State} (hts : s.turns = []) (hp : s.phase = .ready) (hf : s.fsm = .busy) :
    step s = .next (complete s) := by
  simp [step, hts, defaultTurn, takeTurn, engineTurn, hp, hf]

/-! ### The whole loop -/

theorem sameResult_trans {s t u : State} (h₁ : SameResult s t) (h₂ : SameResult t u) : SameResult s u :=
  ⟨h₂.digest.trans h₁.digest, h₂.offset.trans h₁.offset, h₂.trunc.trans h₁.trunc, h₂.codeValue.trans h₁.codeValue,
    h₂.codeAscii.trans h₁.codeAscii, h₂.codeDigits.trans h₁.codeDigits⟩

/-- From `s` at most `m` steps end the loop: `rest` is left of the HOST's operations, the last STATUS read shows DONE and not
BUSY, and the result registers are those of `r`. -/
def WaitEndsWithin (m : Nat) (s r : State) (rest : List HostOp) : Prop :=
  ∃ n t, n ≤ m ∧ runFor n s = .next t ∧ t.host = rest ∧ t.fsm = .idle ∧
    (t.reads.getLastD 0).getLsbD 0 = false ∧ (t.reads.getLastD 0).getLsbD 1 = true ∧ SameResult r t

theorem waitEndsWithin_mono {m m' : Nat} {s r : State} {rest : List HostOp} (hm : m ≤ m')
    (h : WaitEndsWithin m s r rest) : WaitEndsWithin m' s r rest := by
  obtain ⟨n, t, hn, hend⟩ := h
  exact ⟨n, t, Nat.le_trans hn hm, hend⟩

theorem waitEndsWithin_of_step {m : Nat} {s s' r r' : State} {rest : List HostOp} (hstep : step s = .next s')
    (h : WaitEndsWithin m s' r' rest) (hr : SameResult r r') : WaitEndsWithin (m + 1) s r rest := by
  obtain ⟨n, t, hn, hrun, hhost, hf, hbusy, hdone, hres⟩ := h
  exact ⟨n + 1, t, Nat.succ_le_succ hn, (runFor_succ_of_step hstep n).trans hrun, hhost, hf, hbusy, hdone,
    sameResult_trans hr hres⟩

/-- The read that meets the loop ends it (R62). -/
theorem waitEndsWithin_of_met {s : State} {rest : List HostOp} {ts : List Turn} (hf : s.fsm = .idle)
    (hdone : s.done = true)
    (hstep : step s = .next { s with reads := s.reads ++ [s.statusWord], turns := ts, host := rest }) :
    WaitEndsWithin 1 s s rest := by
  have hlast : (s.reads ++ [s.statusWord]).getLastD 0 = s.statusWord := by simp
  refine ⟨1, _, Nat.le_refl 1, runFor_succ_of_step hstep 0, rfl, hf, ?_, ?_, ⟨rfl, rfl, rfl, rfl, rfl, rfl⟩⟩
  · rw [hlast, statusWord_busy, State.busy, hf]
    rfl
  · rw [hlast, statusWord_done, hdone]

/-- After COMPLETE the loop ends at the HOST's first turn; ENGINE turns before it take no step. -/
theorem wait_ends_in_idle {rest : List HostOp} (ts : List Turn) : ∀ {s : State}, s.turns = ts → s.phase = .ready →
    s.fsm = .idle → s.done = true → s.host = .poll 0x04#8 0x1 0 :: rest → (∀ t ∈ ts, t = .host ∨ t = .engine) →
    WaitEndsWithin (ts.length + 1) s s rest := by
  induction ts with
  | nil =>
    intro s hts hp hf hdone hh _
    exact waitEndsWithin_of_met hf hdone (step_of_wait_idle hp hf hh (.inr ⟨hts, rfl⟩))
  | cons tu ts ih =>
    intro s hts hp hf hdone hh hall
    obtain ⟨htu, hrest⟩ := List.forall_mem_cons.1 hall
    rcases htu with rfl | rfl
    · exact waitEndsWithin_mono (Nat.le_add_left 1 _)
        (waitEndsWithin_of_met hf hdone (step_of_wait_idle hp hf hh (.inl hts)))
    · exact waitEndsWithin_of_step (step_of_engine_turn_idle hts hp hf)
        (ih (s := { s with turns := ts }) rfl hp hf hdone hh hrest) ⟨rfl, rfl, rfl, rfl, rfl, rfl⟩

/-- While BUSY each HOST turn leaves the loop pending, until an ENGINE turn, named or by default, is COMPLETE (R92, R94). -/
theorem wait_ends_while_busy {rest : List HostOp} (ts : List Turn) : ∀ {s : State}, s.turns = ts → s.phase = .ready →
    s.fsm = .busy → s.host = .poll 0x04#8 0x1 0 :: rest → (∀ t ∈ ts, t = .host ∨ t = .engine) →
    WaitEndsWithin (ts.length + 2) s (complete s) rest := by
  induction ts with
  | nil =>
    intro s hts hp hf hh hall
    exact waitEndsWithin_of_step (step_of_default_engine_turn hts hp hf)
      (wait_ends_in_idle [] (s := complete s) hts hp rfl rfl hh hall) (sameResult_complete rfl)
  | cons tu ts ih =>
    intro s hts hp hf hh hall
    obtain ⟨htu, hrest⟩ := List.forall_mem_cons.1 hall
    rcases htu with rfl | rfl
    · exact waitEndsWithin_of_step (step_of_wait_busy hp hf hh hts)
        (ih (s := { s with reads := s.reads ++ [s.statusWord], turns := ts }) rfl hp hf hh hrest) (sameResult_complete rfl)
    · exact waitEndsWithin_mono (Nat.le_succ _)
        (waitEndsWithin_of_step (step_of_engine_turn_busy hts hp hf)
          (wait_ends_in_idle ts (s := complete { s with turns := ts }) rfl hp rfl rfl hh hrest) (sameResult_complete rfl))

/-- Settles O51, by induction on the turns fixed. -/
theorem waitEndsWithDone : Obligations.WaitEndsWithDone := by
  unfold Obligations.WaitEndsWithDone
  intro s rest hp hf hh hall
  exact wait_ends_while_busy s.turns rfl hp hf hh hall

end Sys2Proof.Proofs
end

section
/-! The run of a LOADKEY line (R62, R82, R85). -/

namespace Sys2Proof.Proofs

open Sys2Proof.Machine Sys2Proof.Laws

/-! ### Turns of the HOST in a row -/

/-- The next `n` turns are the HOST's and leave `ts`: they are named, or they are the default turn in IDLE (log 1). -/
def HostTurns (n : Nat) (s : State) (ts : List Turn) : Prop :=
  s.turns = List.replicate n .host ++ ts ∨ (s.phase = .ready ∧ s.fsm = .idle ∧ s.turns = [] ∧ ts = [])

theorem turns_eq_of_hostTurns_zero {s : State} {ts : List Turn} (h : HostTurns 0 s ts) : s.turns = ts := by
  rcases h with h | ⟨-, -, h, rfl⟩ <;> exact h

/-- A turn of the HOST performs its next operation, and the other turns stay the HOST's. -/
theorem step_of_hostTurns {n : Nat} {s : State} {ts : List Turn} {op : HostOp} {rest : List HostOp}
    (h : HostTurns (n + 1) s ts) (hh : s.host = op :: rest) :
    ∃ us, step s = performHostOp op { s with host := rest, turns := us } ∧
      ∀ t : State, t.turns = us → t.phase = s.phase → t.fsm = s.fsm → HostTurns n t ts := by
  rcases h with hts | ⟨hp, hf, hts, rfl⟩
  · rw [List.replicate_succ, List.cons_append] at hts
    exact ⟨List.replicate n .host ++ ts, step_of_host_turn hts hh, fun t ht _ _ => .inl ht⟩
  · exact ⟨s.turns, step_of_default_host_turn hts hp hf hh,
      fun t ht htp htf => .inr ⟨htp.trans hp, htf.trans hf, ht.trans hts, rfl⟩⟩

/-! ### The writes of the line -/

/-- The buffer once the words `j` to `j + n - 1` of the key are stored in it. -/
def bufferWithWords (key : List Byte) (j n : Nat) (buf : Vector Byte 64) : Vector Byte 64 :=
  Vector.ofFn fun i => if 4 * j ≤ i.val ∧ i.val < 4 * (j + n) then byteAt key i.val else buf[i]

theorem getElem_bufferWithWords (key : List Byte) (j n : Nat) (buf : Vector Byte 64) {i : Nat} (hi : i < 64) :
    (bufferWithWords key j n buf)[i] = if 4 * j ≤ i ∧ i < 4 * (j + n) then byteAt key i else buf[i] := by
  simp [bufferWithWords]

theorem bufferWithWords_zero (key : List Byte) (j : Nat) (buf : Vector Byte 64) : bufferWithWords key j 0 buf = buf := by
  ext i hi : 1
  rw [getElem_bufferWithWords, if_neg (by omega)]

/-- Word `j` of the key stored in KEYBUF, with missing bytes 0x00 (R62). -/
def storeKeyWord (key : List Byte) (j : Fin 16) (s : State) : State :=
  writeKeyWord j (byteAt key (4 * j.val)) (byteAt key (4 * j.val + 1)) (byteAt key (4 * j.val + 2))
    (byteAt key (4 * j.val + 3)) s

/-- Storing word `j` first and the `n` words after it then is storing `n + 1` words: byte `i` is in word `j`, in a later one of
them, or in none. -/
theorem bufferWithWords_storeKeyWord (key : List Byte) (j : Fin 16) (n : Nat) (s : State) :
    bufferWithWords key (j.val + 1) n (storeKeyWord key j s).keybuf = bufferWithWords key j.val (n + 1) s.keybuf := by
  ext i hi : 1
  simp only [storeKeyWord, getElem_bufferWithWords, getElem_writeKeyWord]
  grind

/-- The write of one word of the key (R62). -/
def keyWordOp (key : List Byte) (j : Nat) : HostOp := wrOp (.raw (BitVec.ofNat 8 (0x20 + 4 * j))) (wordBE key j)

theorem performHostOp_keyWordOp {s : State} (hp : s.phase = .ready) (key : List Byte) (j : Fin 16) :
    performHostOp (keyWordOp key j.val) s = .next (storeKeyWord key j s) := by
  obtain ⟨h0, h1, h2, h3⟩ := wordByte_packed (byteAt key (4 * j.val)) (byteAt key (4 * j.val + 1))
    (byteAt key (4 * j.val + 2)) (byteAt key (4 * j.val + 3))
  have hwrite := performAccess_writeAt_keyW hp j (wordBE key j.val)
  rw [wordBE, h0, h1, h2, h3] at hwrite
  exact hwrite

theorem performHostOp_keyLen {s : State} (hp : s.phase = .ready) (n : Nat) :
    performHostOp (wrOp .keyLen (BitVec.ofNat 32 n)) s = .next { s with keyLen := BitVec.ofNat 8 n } := by
  have hfield : (BitVec.ofNat 32 n).extractLsb' 0 8 = BitVec.ofNat 8 n := by
    apply BitVec.eq_of_toNat_eq
    simp
  rw [← hfield]
  exact performAccess_writeAt hp rfl _

/-- The line from word `j` on: the `n` words that are left, then KEY_LEN. -/
theorem runFor_loadKey_from {key : List Byte} {rest : List HostOp} {ts : List Turn} (n : Nat) :
    ∀ {j : Nat} {s : State}, j + n ≤ 16 → s.phase = .ready → HostTurns (n + 1) s ts →
      s.host = (List.range' j n).map (keyWordOp key) ++ wrOp .keyLen (BitVec.ofNat 32 key.length) :: rest →
      runFor (n + 1) s = .next { s with
        host := rest
        turns := ts
        keybuf := bufferWithWords key j n s.keybuf
        keyLen := BitVec.ofNat 8 key.length } := by
  induction n with
  | zero =>
    intro j s _ hp hturns hh
    obtain ⟨us, hstep, hnext⟩ := step_of_hostTurns hturns hh
    have hus : us = ts := turns_eq_of_hostTurns_zero (hnext { s with turns := us } rfl rfl rfl)
    have hlen := hstep.trans (performHostOp_keyLen (s := { s with host := rest, turns := us }) hp _)
    rw [runFor_succ_of_step hlen, bufferWithWords_zero, hus]
    rfl
  | succ n ih =>
    intro j s hj hp hturns hh
    obtain ⟨us, hstep, hnext⟩ := step_of_hostTurns hturns hh
    have hj16 : j < 16 := by omega
    have hword := hstep.trans (performHostOp_keyWordOp (s := { s with host := _, turns := us }) hp key ⟨j, hj16⟩)
    have hrest := ih (s := storeKeyWord key ⟨j, hj16⟩ { s with host := _, turns := us }) (j := j + 1) (by omega) hp
      (hnext _ rfl rfl rfl) rfl
    rw [bufferWithWords_storeKeyWord key ⟨j, hj16⟩] at hrest
    exact (runFor_succ_of_step hword _).trans hrest

theorem expandLine_loadKey (key : List Byte) (rest : List HostOp) : expandLine (.loadKey key) ++ rest =
    (List.range' 0 ((key.length + 3) / 4)).map (keyWordOp key) ++ wrOp .keyLen (BitVec.ofNat 32 key.length) :: rest := by
  rw [← List.range_eq_range']
  exact List.append_assoc _ _ _

/-- Settles O52: word by word from word 0 on, whether the HOST's turns are named or by default. -/
theorem loadKeyLoadsTheKey : Obligations.LoadKeyLoadsTheKey := by
  unfold Obligations.LoadKeyLoadsTheKey
  intro s key rest hp hlen hh
  have hrun {ts : List Turn} (hturns : HostTurns ((key.length + 3) / 4 + 1) s ts) :=
    runFor_loadKey_from _ (by omega) hp hturns (hh.trans (expandLine_loadKey key rest))
  refine ⟨bufferWithWords key 0 ((key.length + 3) / 4) s.keybuf, fun ts hts => hrun (.inl hts), fun hts hf => ?_,
    fun j hj => ?_⟩
  · exact hrun (.inr ⟨hp, hf, hts, hts⟩)
  · rw [getElem_bufferWithWords]
    exact if_congr (by omega) rfl rfl

end Sys2Proof.Proofs
end

section
/-! The values that reads return: the control, input, key and result registers, and the reserved offsets (R64-R78). -/

namespace Sys2Proof.Proofs

open Sys2Proof.Machine Sys2Proof.Laws

/-- A read of a field returns it with zeros in the register's bits above it (R29-R33, R67). -/
theorem returns_respond_zext32 {w : Nat} (hw : w ≤ 32) (v : BitVec w) (s : State) :
    Returns (.next (respond (zext32 v) s)) s ((0#(32 - w) ++ v).cast (Nat.sub_add_cancel hw)) := by
  rw [zext32, BitVec.setWidth_eq_append hw]
  rfl

/-- Settles O17: each read returns the word of its register, and BUSY is `fsm = BUSY`. -/
theorem controlRegisterReads : Obligations.ControlRegisterReads := fun _ => ⟨rfl, rfl, rfl⟩

/-- Settles O18: DIGITS and LEN are returned with zeros above them, and COMPLETE keeps the counter. -/
theorem inputRegisterReads : Obligations.InputRegisterReads := by
  unfold Obligations.InputRegisterReads
  intro s
  have hfield {w : Nat} (hw : w ≤ 32) (v : BitVec w) := returns_respond_zext32 hw v s
  exact ⟨hfield (by decide) s.digits, hfield (by decide) s.keyLen, rfl, rfl, complete_counterHi s, complete_counterLo s⟩

/-- Settles O19: no key read looks at KEYBUF. -/
theorem keyReadsReturnZero : Obligations.KeyReadsReturnZero := fun _ =>
  ⟨rfl, rfl, rfl, rfl, rfl, rfl, rfl, rfl, rfl, rfl, rfl, rfl, rfl, rfl, rfl, rfl⟩

/-- Settles O20: the four registers with reserved bits are returned as fields, the other eight whole. -/
theorem resultRegisterReads : Obligations.ResultRegisterReads := by
  unfold Obligations.ResultRegisterReads
  intro s
  have hfield {w : Nat} (hw : w ≤ 32) (v : BitVec w) := returns_respond_zext32 hw v s
  exact ⟨rfl, rfl, rfl, rfl, rfl, hfield (by decide) s.offset, hfield (by decide) s.trunc,
    hfield (by decide) s.codeValue, rfl, rfl, rfl, hfield (by decide) s.codeDigits⟩

/-- No register is read at 0x1C or from 0x90 on (R34, R55 case 1). -/
theorem decodeRead_reserved {off : BitVec 8} (h : off = 0x1C#8 ∨ 0x90 ≤ off.toNat) :
    decodeRead off = .rdReserved off := by
  rw [← BitVec.toNat_inj, BitVec.toNat_ofNat] at h
  unfold decodeRead
  split
  case h_36 => rfl
  all_goals omega

theorem offsetAligned_of_slot {off : BitVec 8} {lo : Nat}
    (h : off = 0x1C#8 ∨ (lo ≤ off.toNat ∧ off.toNat % 4 = 0)) : offsetAligned off = true := by
  rcases h with rfl | ⟨-, hmod⟩
  · rfl
  · exact beq_iff_eq.2 hmod

/-- Settles O12: the offset decodes to the reserved read, which returns 0, whatever DATA is. -/
theorem reservedReadsReturnZero : Obligations.ReservedReadsReturnZero := by
  unfold Obligations.ReservedReadsReturnZero
  intro off v s hp hoff
  have hw : Access.wellFormed { write := false, size := 4, offset := off, data := v } = true :=
    offsetAligned_of_slot hoff
  rw [performAccess_read hp rfl hw, decodeRead_reserved (hoff.imp_right And.left)]
  exact (readsValue_rdReserved off).returns s

end Sys2Proof.Proofs
end

section
/-! What single writes and commands store: the ignored writes, the reserved commands, NOP, STATUS, the input registers and the key
words (R79-R88, R91). -/

namespace Sys2Proof.Proofs

open Sys2Proof.Machine Sys2Proof.Laws

/-- No register is written at 0x1C or from 0x60 on (R55 case 4, R86). -/
theorem decodeWrite_ignored {off : BitVec 8} (h : off = 0x1C#8 ∨ 0x60 ≤ off.toNat) (data : Word) :
    decodeWrite off data = .wrIgnored off data := by
  rw [← BitVec.toNat_inj, BitVec.toNat_ofNat] at h
  unfold decodeWrite
  split
  case h_24 => rfl
  all_goals omega

/-- Settles O13: the offset decodes to the ignored write, in every state. -/
theorem writesToReadOnlyOrReservedOffsetsAreIgnored : Obligations.WritesToReadOnlyOrReservedOffsetsAreIgnored := by
  unfold Obligations.WritesToReadOnlyOrReservedOffsetsAreIgnored
  intro off v s hp hoff
  rw [performAccess_writeAt hp (offsetAligned_of_slot hoff), decodeWrite_ignored (hoff.imp_right And.left)]
  rfl

theorem decodeCommand_of_reserved {data : Word} (h : 3 ≤ data.toNat % 16) :
    decodeCommand data = .cmdReserved (data.extractLsb' 0 4) := by
  unfold decodeCommand
  rw [toNat_cmd]
  split
  case h_4 => rfl
  all_goals omega

/-- Settles O14: CMD is all the command decoder looks at, and a reserved one is `set_error(ERR_CMD)`. -/
theorem reservedCommandsOnlySetErrCmd : Obligations.ReservedCommandsOnlySetErrCmd := by
  unfold Obligations.ReservedCommandsOnlySetErrCmd
  intro v s hp hcmd
  rw [performAccess_writeAt_ctrl hp, decodeCommand_of_reserved hcmd]
  rfl

/-- Settles O26: NOP is the identity, and a CTRL write with CMD = 0 is NOP. -/
theorem nopLeavesAllStateUnchanged : Obligations.NopLeavesAllStateUnchanged := by
  unfold Obligations.NopLeavesAllStateUnchanged
  intro s
  exact ⟨rfl, fun hp v hcmd => (ctrlWritesIgnoreTheUpperDataBits v s hp).1 hcmd⟩

/-- Settles O22: the W1C write clears by strobe, and the decoder takes the strobes from DATA[1] and DATA[2]. -/
theorem statusWriteClearsOnlyTheStrobedBits : Obligations.StatusWriteClearsOnlyTheStrobedBits := by
  unfold Obligations.StatusWriteClearsOnlyTheStrobedBits
  intro d e s
  exact ⟨congrArg Host.Outcome.next (clearStatus_eq d e s), fun hp v => performAccess_writeAt hp rfl v⟩

/-- Settles O23: each instruction is an update of its own field, and the decoder takes the field from DATA. -/
theorem inputWritesStoreTheirField : Obligations.InputWritesStoreTheirField := by
  unfold Obligations.InputWritesStoreTheirField
  intro s a b d l c
  exact ⟨rfl, rfl, rfl, rfl, rfl, fun hp => ⟨performAccess_writeAt hp rfl c, performAccess_writeAt hp rfl c,
    performAccess_writeAt hp rfl c, performAccess_writeAt hp rfl c⟩⟩

/-- Settles O24: each instruction is `writeKeyWord` of its word, and a write access of KEY_Wn stores the bytes of DATA. -/
theorem keyWritesStoreFourBytes : Obligations.KeyWritesStoreFourBytes := by
  unfold Obligations.KeyWritesStoreFourBytes
  constructor
  · intro b0 b1 b2 b3 s
    have hword (n : Fin 16) := writesKeyWord_next n b0 b1 b2 b3 s
    exact ⟨hword 0, hword 1, hword 2, hword 3, hword 4, hword 5, hword 6, hword 7,
      hword 8, hword 9, hword 10, hword 11, hword 12, hword 13, hword 14, hword 15⟩
  · intro v s hp
    obtain ⟨-, -, -, -, -, hkey, -⟩ := registerWritesStoreTheirDataFields v s hp
    exact hkey

end Sys2Proof.Proofs
end

section
/-! ENGINE turns: none in IDLE, a consistent result after COMPLETE, and equal results of equal inputs (R92, R95, R125). -/

namespace Sys2Proof.Proofs

open Sys2Proof.Machine Sys2Proof.Laws

/-- Settles O36: COMPLETE is not enabled in IDLE, so the turn is used up without a step. -/
theorem completeIsEnabledOnlyWhileBusy : Obligations.CompleteIsEnabledOnlyWhileBusy := by
  unfold Obligations.CompleteIsEnabledOnlyWhileBusy
  intro s ts hp hf
  exact step_of_engine_turn_idle rfl hp hf

/-- Settles O37: the ENGINE turn is COMPLETE, whose result is consistent for a legal digit count. -/
theorem completedResultsAreConsistent : Obligations.CompletedResultsAreConsistent := by
  unfold Obligations.CompletedResultsAreConsistent
  intro s ts hp hf hlow hhigh
  exact ⟨_, step_of_engine_turn_busy rfl hp hf, resultConsistent_complete ⟨hlow, hhigh⟩, rfl⟩

/-- The key is made of LEN and the bytes of KEYBUF below LEN only (R27, R95). -/
theorem key_eq_of_sameInputs {s t : State} (h : SameInputs s t) : t.key = s.key := by
  apply List.ext_getElem
  · simp [State.key, h.keyLen]
  · intro j _ hj
    obtain ⟨hlen, hbuf⟩ : j < s.keyLen.toNat ∧ j < 64 := by simpa [State.key] using hj
    simpa [State.key] using h.keyBytes j hbuf hlen

/-- Equal inputs give equal snapshots (R36, R95). -/
theorem snapshot_eq_of_sameInputs {s t : State} (h : SameInputs s t) : t.snapshot = s.snapshot := by
  simp only [State.snapshot, State.counter, key_eq_of_sameInputs h, h.keyLen, h.counterHi, h.counterLo, h.digits]

/-- START's checks look at the inputs only (R89). -/
theorem startReady_of_sameInputs {s t : State} (h : SameInputs s t) (hs : s.StartReady) (hidle : t.fsm = .idle) :
    t.StartReady := by
  obtain ⟨-, hchecks⟩ := hs
  rw [← h.keyLen, ← h.digits] at hchecks
  exact ⟨hidle, hchecks⟩

theorem exec_cmdStart_of_startReady {s : State} (h : s.StartReady) : exec .cmdStart s = .next (acceptStart s) :=
  congrArg Host.Outcome.next (start_of_startReady h)

/-- An ENGINE turn after an accepted START is COMPLETE of the snapshot that it took (R89, R92). -/
theorem step_engine_acceptStart {s : State} (hp : s.phase = .ready) (ts : List Turn) :
    step { acceptStart s with turns := .engine :: ts } = .next (complete { acceptStart s with turns := ts }) :=
  step_of_engine_turn_busy (s := { acceptStart s with turns := .engine :: ts }) rfl hp rfl

/-- Settles O38: both STARTs take the same snapshot, and COMPLETE reads nothing else. -/
theorem equalInputsGiveEqualResults : Obligations.EqualInputsGiveEqualResults := by
  unfold Obligations.EqualInputsGiveEqualResults
  intro s t us vs hps hpt hs hidle hin
  have ht := startReady_of_sameInputs hin hs hidle
  exact ⟨acceptStart s, acceptStart t, _, _, exec_cmdStart_of_startReady hs, exec_cmdStart_of_startReady ht,
    step_engine_acceptStart hps us, step_engine_acceptStart hpt vs,
    sameResult_complete (snapshot_eq_of_sameInputs hin), rfl, rfl⟩

end Sys2Proof.Proofs
end

section
/-! The parts of SHA-1 as the specification states them: the message schedule, the padding, and HMAC as two padded hashes
(R100, R101, R104, R105, R112-R116). -/

namespace Sys2Proof.Proofs

open Sys2Proof.Machine Sys2Proof.Laws

/-- The words of block `b`'s schedule so far, newest first as `extendSchedule` keeps them: the message words (R100), then the
recurrence (R101). -/
structure IsScheduleSoFar (b : List Byte) (newestFirst : List Word) : Prop where
  hasMessageWords : 16 ≤ newestFirst.length
  message : ∀ t < 16, newestFirst.reverse.getD t 0 = wordBE b t
  recurrence : ∀ t, 16 ≤ t → t < newestFirst.length → newestFirst.reverse.getD t 0 =
    rotl32 (newestFirst.reverse.getD (t - 3) 0 ^^^ newestFirst.reverse.getD (t - 8) 0 ^^^
      newestFirst.reverse.getD (t - 14) 0 ^^^ newestFirst.reverse.getD (t - 16) 0) 1

/-- `nextWord` counts back from the newest word, the recurrence forward from the oldest. -/
theorem nextWord_eq_of_reverse {l : List Word} (h : 16 ≤ l.length) :
    nextWord l = rotl32 (l.reverse.getD (l.length - 3) 0 ^^^ l.reverse.getD (l.length - 8) 0 ^^^
      l.reverse.getD (l.length - 14) 0 ^^^ l.reverse.getD (l.length - 16) 0) 1 := by
  have back {i : Nat} (hi : i < 16) : l.reverse.getD (l.length - (i + 1)) 0 = l.getD i 0 := by
    rw [List.getD_reverse _ (by omega)]
    congr 1
    omega
  rw [nextWord, back (i := 2) (by decide), back (i := 7) (by decide), back (i := 13) (by decide),
    back (i := 15) (by decide)]

theorem getD_reverse_cons_old {w : Word} {l : List Word} {t : Nat} (ht : t < l.length) :
    (w :: l).reverse.getD t 0 = l.reverse.getD t 0 := by
  rw [List.reverse_cons, List.getD_append _ _ _ _ (by simpa using ht)]

theorem getD_reverse_cons_newest (w : Word) (l : List Word) : (w :: l).reverse.getD l.length 0 = w := by
  simp [List.reverse_cons]

theorem isScheduleSoFar_messageWords (b : List Byte) : IsScheduleSoFar b (messageWords b).reverse where
  hasMessageWords := by simp [messageWords]
  message t ht := by simp [messageWords, ht]
  recurrence t hlow hhigh := absurd hhigh (by simpa [messageWords] using hlow)

/-- One word more keeps the invariant: at every position but the last the words are the old ones. -/
theorem isScheduleSoFar_nextWord {b : List Byte} {l : List Word} (h : IsScheduleSoFar b l) :
    IsScheduleSoFar b (nextWord l :: l) := by
  obtain ⟨hlen, hmsg, hrec⟩ := h
  refine ⟨Nat.le_succ_of_le hlen, fun t ht => ?_, fun t hlow hhigh => ?_⟩
  · rw [getD_reverse_cons_old (by omega), hmsg t ht]
  · have hle : t ≤ l.length := Nat.le_of_lt_succ hhigh
    rw [getD_reverse_cons_old (t := t - 3) (by omega), getD_reverse_cons_old (t := t - 8) (by omega),
      getD_reverse_cons_old (t := t - 14) (by omega), getD_reverse_cons_old (t := t - 16) (by omega)]
    obtain hold | rfl := Nat.lt_or_eq_of_le hle
    · rw [getD_reverse_cons_old hold, hrec t hlow hold]
    · rw [getD_reverse_cons_newest, nextWord_eq_of_reverse hlen]

theorem isScheduleSoFar_extendSchedule {b : List Byte} (n : Nat) {l : List Word} (h : IsScheduleSoFar b l) :
    IsScheduleSoFar b (extendSchedule n l) := by
  induction n generalizing l with
  | zero => exact h
  | succ n ih => exact ih (isScheduleSoFar_nextWord h)

theorem length_extendSchedule (n : Nat) (l : List Word) : (extendSchedule n l).length = n + l.length := by
  induction n generalizing l with
  | zero => simp [extendSchedule]
  | succ n ih => rw [extendSchedule, ih, List.length_cons]; omega

/-- Settles O43: the message words meet the invariant, and each of the 64 words that follow keeps it. -/
theorem scheduleFollowsTheRecurrence : Obligations.ScheduleFollowsTheRecurrence := by
  unfold Obligations.ScheduleFollowsTheRecurrence
  intro b
  have hlen : (extendSchedule 64 (messageWords b).reverse).length = 80 := by
    simp [length_extendSchedule, messageWords]
  obtain ⟨-, hmsg, hrec⟩ := isScheduleSoFar_extendSchedule 64 (isScheduleSoFar_messageWords b)
  exact ⟨(List.length_reverse ..).trans hlen, hmsg, fun t hlow hhigh => hrec t hlow (by omega)⟩

theorem padZeros_fits (n : Nat) : (n + 1 + padZeros n) % 64 = 56 := by
  unfold padZeros
  omega

theorem padZeros_least {n j : Nat} (hj : j < padZeros n) : (n + 1 + j) % 64 ≠ 56 := by
  unfold padZeros at hj
  omega

theorem length_sha1Pad (m : List Byte) : (sha1Pad m).length = m.length + 1 + padZeros m.length + 8 := by
  simp only [sha1Pad, List.length_append, List.length_singleton, length_zeros, length_be8]

/-- Settles O44: k is `padZeros`; below 2^61 bytes the bit length fits its 64 bits. -/
theorem paddingIsTheSmallestThatFits : Obligations.PaddingIsTheSmallestThatFits := by
  unfold Obligations.PaddingIsTheSmallestThatFits
  intro m hm
  have hfits := padZeros_fits m.length
  have hlen := length_sha1Pad m
  have hbits : (BitVec.ofNat 64 (8 * m.length)).toNat = 8 * m.length :=
    (BitVec.toNat_ofNat ..).trans (Nat.mod_eq_of_lt (by omega))
  have hblocks : (sha1Pad m).length % 64 = 0 := by omega
  have hinner (h : m.length = 72) : padZeros m.length = 47 := by rw [h]; rfl
  have houter (h : m.length = 84) : padZeros m.length = 35 := by rw [h]; rfl
  exact ⟨padZeros m.length, rfl, hbits, hfits, fun _ => padZeros_least, hblocks,
    fun h => ⟨hinner h, by omega⟩, fun h => ⟨houter h, by omega⟩⟩

/-- Settles O45: IB2 and OB2 are the second blocks of the two padded messages. -/
theorem hmacEqualsTheRfcFormula : Obligations.HmacEqualsTheRfcFormula := by
  unfold Obligations.HmacEqualsTheRfcFormula
  intro key msg hk hm
  exact ⟨innerHash_eq_sha1 hk hm, hmacSha1_eq_sha1 hk hm, length_hmacSha1 key msg⟩

end Sys2Proof.Proofs
end

section
/-! The key block: a key, then zero bytes, so zero bytes appended to the key change nothing (R109, R116). -/

namespace Sys2Proof.Proofs

open Sys2Proof.Machine

theorem take_keyBlock (key : List Byte) : (keyBlock key).take key.length = key := List.take_left

/-- Past the key stand the zeros of the block, and past the block `byteAt` reads zero too (R109, log 9). -/
theorem byteAt_keyBlock_of_length_le {key : List Byte} {j : Nat} (h : key.length ≤ j) :
    byteAt (keyBlock key) j = 0x00 := by
  rw [byteAt, keyBlock, zeros, List.getD_append_right _ _ _ _ h, List.getD_eq_getElem?_getD,
    List.getElem?_getD_replicate_default_eq]

/-- The zeros appended are the first n of the zeros that the block would hold there (R109). -/
theorem keyBlock_append_zeros {key : List Byte} {n : Nat} (h : key.length + n ≤ 64) :
    keyBlock (key ++ zeros n) = keyBlock key := by
  have hcount : n + (64 - (key ++ zeros n).length) = 64 - key.length := by
    rw [List.length_append, Laws.length_zeros]
    omega
  rw [keyBlock, keyBlock, List.append_assoc, ← hcount]
  exact congrArg (key ++ ·) List.replicate_append_replicate

/-- The key enters the digest through its key block only (R110, R113-R116). -/
theorem hmacSha1_eq_of_keyBlock_eq {key key' : List Byte} (h : keyBlock key = keyBlock key') (msg : List Byte) :
    hmacSha1 key msg = hmacSha1 key' msg := by
  rw [hmacSha1, hmacSha1, innerHash, innerHash, innerPadBlock, innerPadBlock, outerPadBlock, outerPadBlock, h]

/-- Settles O46: a key and the key with zero bytes appended have the same key block. -/
theorem trailingZeroKeyBytesDoNotMatter : Obligations.TrailingZeroKeyBytesDoNotMatter := by
  unfold Obligations.TrailingZeroKeyBytesDoNotMatter
  refine ⟨fun key hk => ?_, fun key msg n hn => ?_⟩
  · exact ⟨length_keyBlock hk, take_keyBlock key, fun _ => byteAt_keyBlock_of_length_le⟩
  · exact hmacSha1_eq_of_keyBlock_eq (keyBlock_append_zeros hn) msg

end Sys2Proof.Proofs
end

section
/-! The truncation window ends below D[19], and the code buffer holds the code value (R117-R126). -/

namespace Sys2Proof.Proofs

open Sys2Proof.Machine

/-- The offset is a nibble, so the last of the four bytes read is at most D[18] (R117, R118). -/
theorem truncOffset_add_three_le (d : List Byte) : (truncOffset d).toNat + 3 ≤ 18 := by
  have := (truncOffset d).isLt
  omega

/-- Settles O47: the four masked and shifted bytes do not overlap, so their OR is the big-endian number. -/
theorem truncationReadsFourBytesBigEndian : Obligations.TruncationReadsFourBytesBigEndian := by
  unfold Obligations.TruncationReadsFourBytesBigEndian
  exact fun d off => ⟨toNat_trunc31 d off, toNat_truncOffset d, truncOffset_add_three_le d⟩

/-- Settles O48: the remainder mod 10^d has at most d digits, and the buffer's characters are those digits. -/
theorem codeBufferSpellsTheCode : Obligations.CodeBufferSpellsTheCode := by
  unfold Obligations.CodeBufferSpellsTheCode
  intro bin d _ hd
  have hval := codeValueOf_lt bin.toNat d
  exact ⟨hval, codeValueOf_lt_two_pow_30 bin.toNat hd, spells_codeBuf (by omega) hval⟩

end Sys2Proof.Proofs
end

section
/-! The checks of START in their order, and the block between power-up and its first reset (R89, R131, R140, R145). -/

namespace Sys2Proof.Proofs

open Sys2Proof.Machine Sys2Proof.Laws

/-! ### The checks of START -/

/-- LEN above 64 is the error reported whatever DIGITS is; DIGITS is reported only under a legal LEN (R131). -/
theorem startError?_of_out_of_range {s : State}
    (h : s.keyLen.toNat > 64 ∨ s.digits.toNat = 0 ∨ s.digits.toNat > 9) :
    startError? s = some (if s.keyLen.toNat > 64 then .keyLen else .digits) := by
  unfold startError?
  by_cases hlen : s.keyLen.toNat > 64
  · rw [if_pos hlen, if_pos hlen]
  · rw [if_neg hlen, if_neg hlen, if_pos (h.resolve_left hlen)]

theorem start_of_startError {s : State} {c : ErrorCode} (hf : s.fsm = .idle) (h : startError? s = some c) :
    start s = setError c (startClear s) := by
  simp [start, hf, h]

/-- Settles O29: BUSY is looked at first, then LEN, then DIGITS, and a misfit access faults before its word is decoded. -/
theorem startChecksKeyLenThenDigits : Obligations.StartChecksKeyLenThenDigits := by
  unfold Obligations.StartChecksKeyLenThenDigits
  refine ⟨fun s hbusy => ?_, fun s hidle hrange => ?_, fun a s hp => (onlyMisfitAccessesRaiseBusError a s hp).1⟩
  · exact congrArg Host.Outcome.next (start_of_busy hbusy)
  · have hcode : ErrorCode.bits (if s.keyLen.toNat > 64 then .keyLen else .digits) =
        if s.keyLen.toNat > 64 then 2 else 1 := apply_ite ErrorCode.bits _ _ _
    have hstart := start_of_startError hidle (startError?_of_out_of_range hrange)
    rw [setError, hcode] at hstart
    exact congrArg Host.Outcome.next hstart

/-! ### Before the first reset -/

/-- The turn named first is taken, at the state with it off the list (R7). -/
theorem step_named_turn (s : State) (tu : Turn) (ts : List Turn) :
    step { s with turns := tu :: ts } = takeTurn tu { s with turns := ts } := rfl

theorem performAccess_unreset {s : State} (h : s.phase = .unreset) (a : Access) :
    performAccess a s = .refused .accessBeforeReset := by
  simp [performAccess, h]

theorem engineTurn_unreset {s : State} (h : s.phase = .unreset) : engineTurn s = .refused .engineBeforeReset := by
  simp [engineTurn, h]

theorem releaseReset_unreset {s : State} (h : s.phase = .unreset) : releaseReset s = s := by
  simp [releaseReset, h]

/-- Settles O34: the refusals and the release look at the phase alone, and the RESET step keeps no register, so what the
registers hold after the power-up plays no part. -/
theorem accessesBeforeTheFirstResetAreRefused : Obligations.AccessesBeforeTheFirstResetAreRefused := by
  unfold Obligations.AccessesBeforeTheFirstResetAreRefused
  intro s ts
  have hphase : (powerUp { s with turns := ts }).phase = .unreset := rfl
  have hstep (tu : Turn) := step_named_turn (powerUp { s with turns := ts }) tu ts
  refine ⟨_, step_named_turn s .powerUp ts, hphase, rfl, rfl, performAccess_unreset hphase, ?_, ?_, ?_⟩
  · exact (hstep .engine).trans (engineTurn_unreset hphase)
  · exact (hstep .rstRelease).trans (congrArg _ (releaseReset_unreset hphase))
  · exact hstep .rstAssert

end Sys2Proof.Proofs
end

section
/-! START while BUSY, and the reset input: its assertion, the accesses and turns it blocks, and its release (R142-R146, R150). -/

namespace Sys2Proof.Proofs

open Sys2Proof.Machine Sys2Proof.Laws

/-! ### START while BUSY -/

/-- Settles O28: the refusal writes ERR and ERR_CODE alone, and COMPLETE makes its result from the snapshot, which it leaves. -/
theorem startWhileBusyIsRefused : Obligations.StartWhileBusyIsRefused := by
  unfold Obligations.StartWhileBusyIsRefused
  intro s hbusy
  refine ⟨congrArg Host.Outcome.next (start_of_busy hbusy), fun ts hp => ?_⟩
  have hrefused := step_of_engine_turn_busy (s := { s with turns := .engine :: ts, err := true, errCode := 3 }) rfl hp hbusy
  exact ⟨_, step_of_engine_turn_busy rfl hp hbusy, rfl, _, hrefused, sameResult_complete rfl, rfl, rfl, rfl⟩

/-! ### While `rst` is asserted -/

theorem performAccess_inReset {s : State} (h : s.phase = .inReset) (a : Access) :
    performAccess a s = .refused .accessDuringReset := by
  simp [performAccess, h]

theorem engineTurn_inReset {s : State} (h : s.phase = .inReset) : engineTurn s = .next s := by
  simp [engineTurn, h]

theorem releaseReset_inReset {s : State} (h : s.phase = .inReset) : releaseReset s = { s with phase := .ready } := by
  simp [releaseReset, h]

/-- Settles O33: the RESET step keeps no register, and the refusals, the idle engine and the release look at the phase alone. -/
theorem resetInputAbortsAndBlocksAccesses : Obligations.ResetInputAbortsAndBlocksAccesses := by
  unfold Obligations.ResetInputAbortsAndBlocksAccesses
  intro s ts
  have hphase : (assertReset { s with turns := ts }).phase = .inReset := assertReset_phase _
  have hstep (tu : Turn) := step_named_turn (assertReset { s with turns := ts }) tu ts
  refine ⟨_, step_named_turn s .rstAssert ts, rfl, performAccess_inReset hphase, ?_, ?_⟩
  · exact (hstep .engine).trans (engineTurn_inReset hphase)
  · exact (hstep .rstRelease).trans (congrArg _ (releaseReset_inReset hphase))

/-! ### CLEAR and reset -/

/-- In a ready block the assertion of `rst` and its release together are what CLEAR does (R146). -/
theorem releaseReset_assertReset {s : State} (h : s.phase = .ready) : releaseReset (assertReset s) = applyReset s := by
  rw [releaseReset_inReset (assertReset_phase s), ← h]
  rfl

/-- Settles O31: assertion and release give the state of CLEAR, which is IDLE, so that no COMPLETE is left to take. -/
theorem clearHasTheEffectOfReset : Obligations.ClearHasTheEffectOfReset := by
  unfold Obligations.ClearHasTheEffectOfReset
  intro s ts hp
  refine ⟨_, _, applyReset { s with turns := ts }, step_named_turn s .rstAssert (.rstRelease :: ts), assertReset_phase _,
    step_named_turn (assertReset { s with turns := ts }) .rstRelease ts, rfl, ?_, hp, ?_⟩
  · exact releaseReset_assertReset (s := { s with turns := ts }) hp
  · exact step_of_engine_turn_idle rfl hp rfl

end Sys2Proof.Proofs
end
